-- ==== Sys2Proof/Word.lean ====
section
/-!
DEFINITION. The bit vectors of HDK: words of the register window, bytes, and the 68-byte queue entry
(spec/10_state.md R21, R26; spec/00_scope.md R8).
-/

namespace Sys2Proof

/-- A byte. -/
abbrev Byte := BitVec 8

/-- A 32-bit word: a register of a port window, or a command word (R21, R70). -/
abbrev Word := BitVec 32

/-- A 24-bit colour 0xRRGGBB: R in bits 23:16, G in 15:8, B in 7:0 (R31, R119). -/
abbrev Color := BitVec 24

/-- A queue entry, and the content of a port's BUF: 68 bytes (R26, R35). -/
abbrev Entry := Vector Byte 68

end Sys2Proof
end

