-- ==== Sys2Proof/Syntax.lean ====
section
/-!
DEFINITION. The 20 operations of HDK, one constructor per row of spec/opcode_table.json
(spec/30_encoding.md R71 to R74). Every field type is exactly as wide as the field of its format,
so a term holds every value the encoding admits and no other (R72).
-/

namespace Sys2Proof

/-- SEL of format K: which of a key's two colours an operation writes (R72). -/
inductive ColorSel where
  /-- SEL = 0, the default colour (DEF). -/
  | defColor
  /-- SEL = 1, the active colour (ACT). -/
  | actColor
  deriving DecidableEq, Repr

/-- An operation with its command-word fields (R74). -/
inductive Instr where
  /-- NOP (R172). -/
  | nop
  /-- INIT (R173); MASK bit 0 = CLK, 1 = RNG, 2 = Q, 3 = USB. -/
  | init (mask : BitVec 4)
  /-- IRQ_EN (R174). -/
  | irqEn (v : Bool)
  /-- READ_CTRL (R175). -/
  | readCtrl
  /-- FATAL_REQ (R176). -/
  | fatalReq (cause : BitVec 8)
  /-- SCAN (R113). -/
  | scan
  /-- EVT_READ (R116); the event slot. -/
  | evtRead (idx : Fin 16)
  /-- KEY_READ (R117); the key index. -/
  | keyRead (idx : Fin 16)
  /-- KEY_COLOR_READ (R118); the key index. -/
  | keyColorRead (idx : Fin 16)
  /-- KEY_SET_COLOR (R119). -/
  | keySetColor (sel : ColorSel) (key : Fin 16)
  /-- KEY_BCAST_COLOR (R120). -/
  | keyBcastColor (sel : ColorSel)
  /-- LED_SET_BRIGHTNESS (R104). -/
  | ledSetBrightness
  /-- CLK_READ (R91). -/
  | clkRead
  /-- RNG_READ (R94). -/
  | rngRead
  /-- Q_PUSH (R132). -/
  | qPush
  /-- Q_POP (R133). -/
  | qPop
  /-- Q_LEVEL (R135). -/
  | qLevel
  /-- USB_PUSH_KBD (R153). -/
  | usbPushKbd
  /-- USB_POLL (R154). -/
  | usbPoll
  /-- USB_STATE_READ (R160). -/
  | usbStateRead
  deriving DecidableEq, Repr

end Sys2Proof
end

