-- ==== Sys2Proof/Decode.lean ====
section
/-!
DEFINITION. The decoder of command words, total and rejecting by name, and after it the encoder
(spec/30_encoding.md R70 to R77). The decoder reads the match and mask columns of the opcode map
(R73, R74); the encoder is written from the formats (R71). Decoding reads no state (R77).
-/

namespace Sys2Proof

/-- Why a word is ILLEGAL. -/
inductive Illegal where
  /-- The OP field names no operation (R76). -/
  | reservedOpcode
  /-- The OP field names an operation, but the word has a 1 in a bit its format marks 0 (R75). -/
  | reservedBits
  /-- Fewer than the four bytes of a command word (R70: one length, 32 bits). -/
  | truncated
  deriving DecidableEq, Repr

/-- A row of the opcode map (R74): `build` reads the fields of a word of the row. -/
structure Row where
  mnemonic : String
  matchBits : Word
  mask : Word
  build : Word → Instr

/-- A word belongs to a row when `(w AND mask) = match` (R73). -/
def Row.holds (r : Row) (w : Word) : Bool :=
  w &&& r.mask == r.matchBits

/-- IDX or KEY, bits 3:0 (R71). -/
def idxField (w : Word) : Fin 16 :=
  (w.extractLsb' 0 4).toFin

/-- SEL, bit 4 (R71, R72). -/
def selField (w : Word) : ColorSel :=
  if w.getLsbD 4 then .actColor else .defColor

/-- The opcode map (R74), in the table's order. -/
def opcodeMap : List Row :=
  [ ⟨"NOP", 0x00000000, 0xFFFFFFFF, fun _ => .nop⟩,
    ⟨"INIT", 0x01000000, 0xFFFFFFF0, fun w => .init (w.extractLsb' 0 4)⟩,
    ⟨"IRQ_EN", 0x02000000, 0xFFFFFFFE, fun w => .irqEn (w.getLsbD 0)⟩,
    ⟨"READ_CTRL", 0x03000000, 0xFFFFFFFF, fun _ => .readCtrl⟩,
    ⟨"FATAL_REQ", 0x04000000, 0xFFFFFF00, fun w => .fatalReq (w.extractLsb' 0 8)⟩ ] ++
  [ ⟨"SCAN", 0x10000000, 0xFFFFFFFF, fun _ => .scan⟩,
    ⟨"EVT_READ", 0x11000000, 0xFFFFFFF0, fun w => .evtRead (idxField w)⟩,
    ⟨"KEY_READ", 0x12000000, 0xFFFFFFF0, fun w => .keyRead (idxField w)⟩,
    ⟨"KEY_COLOR_READ", 0x13000000, 0xFFFFFFF0, fun w => .keyColorRead (idxField w)⟩,
    ⟨"KEY_SET_COLOR", 0x14000000, 0xFFFFFFE0, fun w => .keySetColor (selField w) (idxField w)⟩,
    ⟨"KEY_BCAST_COLOR", 0x14000020, 0xFFFFFFEF, fun w => .keyBcastColor (selField w)⟩ ] ++
  [ ⟨"LED_SET_BRIGHTNESS", 0x20000000, 0xFFFFFFFF, fun _ => .ledSetBrightness⟩,
    ⟨"CLK_READ", 0x30000000, 0xFFFFFFFF, fun _ => .clkRead⟩,
    ⟨"RNG_READ", 0x31000000, 0xFFFFFFFF, fun _ => .rngRead⟩,
    ⟨"Q_PUSH", 0x40000000, 0xFFFFFFFF, fun _ => .qPush⟩,
    ⟨"Q_POP", 0x41000000, 0xFFFFFFFF, fun _ => .qPop⟩,
    ⟨"Q_LEVEL", 0x42000000, 0xFFFFFFFF, fun _ => .qLevel⟩,
    ⟨"USB_PUSH_KBD", 0x50000000, 0xFFFFFFFF, fun _ => .usbPushKbd⟩,
    ⟨"USB_POLL", 0x51000000, 0xFFFFFFFF, fun _ => .usbPoll⟩,
    ⟨"USB_STATE_READ", 0x52000000, 0xFFFFFFFF, fun _ => .usbStateRead⟩ ]

/-- The name of the rejection: reserved bits under a used OP (R75), or a reserved OP (R76). -/
def illegalReason (w : Word) : Illegal :=
  if opcodeMap.any (fun r => r.matchBits.extractLsb' 24 8 == w.extractLsb' 24 8) then
    .reservedBits
  else
    .reservedOpcode

/-- Decode(w) (R73). -/
def decode (w : Word) : Except Illegal Instr :=
  match opcodeMap.find? (fun r => r.holds w) with
  | some r => .ok (r.build w)
  | none => .error (illegalReason w)

/-- The word of four bytes, the first in bits 7:0 (R50). -/
def wordOfBytes (b0 b1 b2 b3 : Byte) : Word :=
  b3 ++ b2 ++ b1 ++ b0

/-- The four bytes of a word, bits 7:0 first: `bytes(w)` of R50. -/
def bytesOfWord (w : Word) : List Byte :=
  [w.extractLsb' 0 8, w.extractLsb' 8 8, w.extractLsb' 16 8, w.extractLsb' 24 8]

/-- The operation at the front of a byte sequence, little-endian (R50, R70), and the bytes after it. -/
def decodeBytes : List Byte → Except Illegal (Instr × List Byte)
  | b0 :: b1 :: b2 :: b3 :: rest =>
    match decode (wordOfBytes b0 b1 b2 b3) with
    | .ok i => .ok (i, rest)
    | .error e => .error e
  | _ => .error .truncated

/-- The command word of a table row's bits (bit 0 is the least significant bit of the one word). -/
def tableWord (nbits w : Nat) : Word :=
  BitVec.ofNat 32 (w % 2 ^ nbits)

/-- What the decoder reads from the bits `w` of a row of `nbits` bits: the word is laid out in its
byte order, lowest byte first, and decoded. -/
def decodeTableWord (nbits w : Nat) : Option Instr :=
  match decodeBytes (bytesOfWord (tableWord nbits w)) with
  | .ok (i, _) => some i
  | .error _ => none

/-! The encoder, from the formats of R71. -/

/-- Format N: OP, then 24 zero bits. -/
def formatN (op : BitVec 8) : Word :=
  op ++ (0 : BitVec 24)

/-- Formats U and I: OP, 20 zero bits, and a 4-bit field in bits 3:0. -/
def formatU (op : BitVec 8) (f : BitVec 4) : Word :=
  op ++ (0 : BitVec 20) ++ f

/-- Format B: OP, 23 zero bits, and V in bit 0. -/
def formatB (op : BitVec 8) (v : Bool) : Word :=
  op ++ (0 : BitVec 23) ++ BitVec.ofBool v

/-- Format C: OP, 16 zero bits, and CAUSE in bits 7:0. -/
def formatC (op : BitVec 8) (cause : BitVec 8) : Word :=
  op ++ (0 : BitVec 16) ++ cause

/-- SEL as a bit (R72). -/
def selBit : ColorSel → BitVec 1
  | .defColor => 0
  | .actColor => 1

/-- Format K: OP, 18 zero bits, BC in bit 5, SEL in bit 4, KEY in bits 3:0. -/
def formatK (op : BitVec 8) (bc : BitVec 1) (sel : ColorSel) (key : BitVec 4) : Word :=
  op ++ (0 : BitVec 18) ++ bc ++ selBit sel ++ key

/-- A key index or event slot as a 4-bit field (R72). -/
def idxBits (i : Fin 16) : BitVec 4 :=
  BitVec.ofFin i

/-- The command word of an operation (R71, R74). -/
def encode : Instr → Word
  | .nop => formatN 0x00
  | .init mask => formatU 0x01 mask
  | .irqEn v => formatB 0x02 v
  | .readCtrl => formatN 0x03
  | .fatalReq cause => formatC 0x04 cause
  | .scan => formatN 0x10
  | .evtRead idx => formatU 0x11 (idxBits idx)
  | .keyRead idx => formatU 0x12 (idxBits idx)
  | .keyColorRead idx => formatU 0x13 (idxBits idx)
  | .keySetColor sel key => formatK 0x14 0 sel (idxBits key)
  | .keyBcastColor sel => formatK 0x14 1 sel 0
  | .ledSetBrightness => formatN 0x20
  | .clkRead => formatN 0x30
  | .rngRead => formatN 0x31
  | .qPush => formatN 0x40
  | .qPop => formatN 0x41
  | .qLevel => formatN 0x42
  | .usbPushKbd => formatN 0x50
  | .usbPoll => formatN 0x51
  | .usbStateRead => formatN 0x52

end Sys2Proof
end

