-- ==== Sys2Proof/Machine/Agents.lean ====
section
/-!
DEFINITION. The agents of HDK and the steps they take (spec/00_scope.md R6; spec/30_encoding.md R78):
accesses to the register window, the environment's steps, and the two software agents whose state the
spec follows (spec/60_exceptions.md R187; spec/43_queue.md R141).
-/

namespace Sys2Proof.Machine

/-- A port, and the software context that owns it (R6, R20). -/
inductive Port where
  /-- P0: the primary context, main loop and scanner. -/
  | p0
  /-- P1: the USB interrupt handler. -/
  | p1
  /-- P2: the renderer on the second core. -/
  | p2
  deriving DecidableEq, Repr, Inhabited

/-- A software access: its width in bytes, its address, and for a write the value (R52, R55).
An access of another width than 4 can be written down; it is refused (R55). -/
inductive Access where
  | read (width addr : Nat)
  | write (width addr : Nat) (value : Word)
  deriving DecidableEq, Repr, Inhabited

/-- One step of one agent (R6, R62). -/
inductive Act where
  /-- An access as the block sees it, whoever makes it: HDK does not check the writer (R192, R52). -/
  | bus (x : Access)
  /-- An access made by a software context in its role (R7, R141, R187). -/
  | context (c : Port) (x : Access)
  /-- TICK (R90). -/
  | tick
  /-- SYNC W: wsync <- wptr (R134). -/
  | syncW
  /-- SYNC R: rsync <- rptr (R134). -/
  | syncR
  /-- HOST CONFIGURE (R155). -/
  | hostConfigure
  /-- HOST RESET, a bus reset (R156). -/
  | hostReset
  /-- HOST TAKE_IN(h) (R157). -/
  | hostTake (h : Nat)
  /-- HOST SEND_OUT(h) (R158). -/
  | hostOut (h : Nat)
  /-- KEYPAD: kp_lines <- lines (R110). -/
  | keypad (lines : BitVec 16)
  /-- P1 `enter` (R187). -/
  | enter
  /-- P1 `return` (R187). -/
  | leave
  /-- P2 ends a drawing and returns to Idle (R141). -/
  | renderDone
  /-- RESET from outside the block (R201). -/
  | reset
  deriving DecidableEq, Repr, Inhabited

/-- The P1 agent (R187). -/
inductive Handler where
  | idle
  /-- InISR. `polled`: this handler has issued USB_POLL. `waived`: some operation of this handler
  returned ERR_FATAL, which releases it from its duty to poll. -/
  | inIsr (polled waived : Bool)
  deriving DecidableEq, Repr, Inhabited

/-- The P2 agent (R141). -/
inductive Renderer where
  | idle
  /-- Drawing(entry). `requested`: P2 has issued FATAL_REQ 0x10 for this entry (R142). -/
  | drawing (entry : Entry) (requested : Bool)
  deriving DecidableEq, Repr, Inhabited

end Sys2Proof.Machine
end

