-- ==== Sys2Proof/Config.lean ====
section
/-!
DEFINITION. What an implementation of HDK fixes (the parameters of spec/00_scope.md R5) and the free
values: what the spec leaves open (spec/93_implementation_defined.md section 2). A free value has no
body, so a proof holds whatever it is.
-/

namespace Sys2Proof

/-- The parameters of R5 that are not fixed by the spec. No step writes them. -/
structure Params where
  /-- BLOCK_BASE, base address of the register window (R51). -/
  blockBase : Nat
  /-- KEYPAD_ADDR, the keypad's peripheral address; no rule reads it (R112). -/
  keypadAddr : Nat
  /-- TICK_NS, the tick period in nanoseconds (R90). That it is a whole number is a DESIGN CHOICE
  (notes/assumptions/24.md). -/
  tickNs : Nat
  /-- CHAIN_MAP: the key shown at each chain position (R106). -/
  chainMap : Vector (Fin 16) 16
  /-- HID_IN_LEN[h] for h = 1 .. NHID-1; HID_IN_LEN[0] is 8 (R150). -/
  moreInLen : List Nat
  /-- USB_VID; no rule reads it (R150). Its width is PRESUMED (notes/assumptions/23.md). -/
  usbVid : BitVec 16
  /-- USB_PID; no rule reads it (R150). Its width is PRESUMED (notes/assumptions/23.md). -/
  usbPid : BitVec 16
  deriving DecidableEq, Repr

/-- NHID, the number of HID endpoint instances (R150). -/
def Params.nhid (c : Params) : Nat :=
  1 + c.moreInLen.length

/-- The defaults of R5. BLOCK_BASE, KEYPAD_ADDR, USB_VID and USB_PID have none: 0 is a DESIGN CHOICE
(notes/assumptions/5.md), unsafe for a claim that leans on it. -/
def Params.standard : Params where
  blockBase := 0
  keypadAddr := 0
  tickNs := 1000
  chainMap := #v[0, 1, 2, 3, 4, 5, 6, 7, 8, 9, 10, 11, 12, 13, 14, 15]
  moreInLen := []
  usbVid := 0
  usbPid := 0

namespace Config

/-- BUSOK (R6, R102, R112): whether a bus transaction succeeds. Free (notes/assumptions/3.md). -/
opaque busOk : Nat → Bool

/-- JITTER (R93): a raw draw, before it is brought into its range. Free (notes/assumptions/4.md). -/
opaque jitter : Nat → Word

/-- The next agent step past the agenda (R6, R189). Free (notes/assumptions/1.md). -/
opaque freeAct : Nat → Machine.Act

/-- The content of q_mem after a reset (R40). Free (notes/assumptions/6.md). -/
opaque freeQMem : Nat → Vector Entry 16

end Config

end Sys2Proof
end

