-- ==== Sys2Proof/Machine/State.lean ====
section
/-!
DEFINITION. The state of HDK (spec/10_state.md R20 to R40), its agents and its environment (R37;
spec/60_exceptions.md R187; spec/43_queue.md R141), as plain data, with the state after reset.
-/

namespace Sys2Proof.Machine

/-- The result codes, the only values RESULT takes (R27). -/
inductive Result where
  /-- 0: the operation did what its rule says. -/
  | ok
  /-- 1: Q_POP found no entry visible. -/
  | empty
  /-- 2: USB_PUSH_KBD could not queue the report now. -/
  | wouldBlock
  /-- 3: the USB device is not configured. -/
  | errUsbState
  /-- 4: the unit the operation needs is not initialised. -/
  | errNotInit
  /-- 5: no operation, or not this port's. -/
  | errIllegal
  /-- 6: an operand is out of range. -/
  | errRange
  /-- 7: the block is in the fatal state, or entered it. -/
  | errFatal
  deriving DecidableEq, Repr, Inhabited

/-- The registers of one port that hold a value (R21). CMD holds none (R22); STATUS[8] and STATUS[9]
are views of block state (R24). -/
structure PortRegs where
  data0 : Word
  data1 : Word
  resp0 : Word
  resp1 : Word
  resp2 : Word
  /-- STATUS[7:0]. -/
  result : Result
  /-- BUF[0..67] (R26). -/
  buf : Entry
  deriving DecidableEq, Repr

/-- The record of one key (R31). -/
structure Key where
  pressed : Bool
  held : Bool
  lastPress : BitVec 64
  defColor : Color
  actColor : Color
  deriving DecidableEq, Repr

/-- One HID endpoint instance (R36). -/
structure HidInstance where
  /-- in_full[h]: the buffer holds a report the host has not taken. -/
  inFull : Bool
  /-- in_buf[h], HID_IN_LEN[h] bytes. -/
  inBuf : List Byte
  /-- out_pending[h]: an OUT report no poll has drained. -/
  outPending : Bool
  deriving DecidableEq, Repr

/-- One LED bus transaction in led_log (R37, R102). -/
inductive LedSend where
  | complete (frame : List Byte)
  | aborted
  deriving DecidableEq, Repr

/-- The state. -/
structure State where
  /-- The parameters of the machine (R5). No step writes them. -/
  cfg : Params
  /-- Port P0's registers (R20, R21). -/
  p0 : PortRegs
  /-- Port P1's registers. -/
  p1 : PortRegs
  /-- Port P2's registers. -/
  p2 : PortRegs
  /-- Control state (R29). -/
  clkEn : Bool
  rngEn : Bool
  qEn : Bool
  usbEn : Bool
  usbIrqEn : Bool
  fatal : Bool
  fatalCause : BitVec 8
  /-- The clock counter (R30). -/
  clk : BitVec 64
  /-- The key array (R31). -/
  keys : Vector Key 16
  /-- The level field of the brightness byte (R33). -/
  brightLevel : BitVec 5
  /-- The event list of the last SCAN (R34). -/
  evtCount : Nat
  evt : Vector Word 16
  /-- The queue (R35). -/
  qMem : Vector Entry 16
  wptr : BitVec 5
  rptr : BitVec 5
  wsync : BitVec 5
  rsync : BitVec 5
  /-- The USB controller (R36). -/
  configured : Bool
  ctrlPending : Bool
  evPending : Bool
  /-- HID instance 0, the boot keyboard (R150). -/
  kbd : HidInstance
  /-- HID instances 1 .. NHID-1 (R150). -/
  moreHid : List HidInstance
  /-- The P1 agent (R187). -/
  handler : Handler
  /-- The P2 agent (R141). -/
  renderer : Renderer
  /-- The keypad input lines, active-low (R37). -/
  kpLines : BitVec 16
  /-- The LED frames sent, oldest first (R37). -/
  ledLog : List LedSend
  /-- The reports the USB host has taken, oldest first (R37). -/
  hostLog : List (Nat × List Byte)
  /-- The model's own: the port whose CMD write is being executed (the p of Dispatch(p, w), R170;
  notes/assumptions/2.md). -/
  issuing : Port
  /-- The model's own: the agents' next steps, oldest first (notes/assumptions/1.md). -/
  agenda : List Act
  /-- The model's own: BUSOK's next answers (notes/assumptions/3.md). -/
  busAnswers : List Bool
  /-- The model's own: JITTER's next raw draws (notes/assumptions/4.md). -/
  jitterAnswers : List Word
  /-- The model's own: how many free values have been taken (notes/assumptions/3.md). -/
  drawn : Nat
  /-- The model's own: the word the last MemRead returned (notes/assumptions/9.md). -/
  rdata : Word
  deriving DecidableEq, Repr

/-- Why the machine stops with a fault. -/
inductive Fault where
  /-- Raised by an access to an address outside the register window: the address does not belong to
  HDK (R51). Safe: the access is the platform's, and HDK has no step for it. -/
  | outsideWindow
  deriving DecidableEq, Repr

/-- Why a step has no meaning. -/
inductive Refusal where
  /-- Raised by an arm of exec that has no meaning yet. Safe. -/
  | notModelled (mnemonic : String)
  /-- Raised by an access inside the window that is not 32 bits wide or not 4-aligned: it has no step
  (R55). Safe. -/
  | badAccess
  /-- Raised by an agent step of the agenda that is not enabled (R6, R7, R90, R141, R155 to R158, R187).
  Safe. -/
  | notEnabled
  deriving DecidableEq, Repr

/-- The outcome of a step of this machine. -/
abbrev Out := Host.Outcome State Fault Refusal

/-- A port's registers after reset (R40). -/
def PortRegs.reset : PortRegs where
  data0 := 0
  data1 := 0
  resp0 := 0
  resp1 := 0
  resp2 := 0
  result := .ok
  buf := Vector.replicate 68 0

/-- A key after reset (R40). -/
def Key.reset : Key where
  pressed := false
  held := false
  lastPress := 0
  defColor := 0
  actColor := 0

/-- A HID instance with an IN report of `len` bytes, after reset (R40). -/
def HidInstance.reset (len : Nat) : HidInstance where
  inFull := false
  inBuf := List.replicate len 0
  outPending := false

/-- The state right after reset, with the standard parameters (R40, R200). What R40 does not give is
named in notes/assumptions 1 to 9: q_mem (6), kp_lines (7), the logs (8), the parameters (5) and the
model's own fields (1, 2, 3, 4, 9). -/
def State.reset : State where
  cfg := Params.standard
  p0 := PortRegs.reset
  p1 := PortRegs.reset
  p2 := PortRegs.reset
  clkEn := false
  rngEn := false
  qEn := false
  usbEn := false
  usbIrqEn := false
  fatal := false
  fatalCause := 0
  clk := 0
  keys := Vector.replicate 16 Key.reset
  brightLevel := 0
  evtCount := 0
  evt := Vector.replicate 16 0
  qMem := Vector.replicate 16 (Vector.replicate 68 0)
  wptr := 0
  rptr := 0
  wsync := 0
  rsync := 0
  configured := false
  ctrlPending := false
  evPending := false
  kbd := HidInstance.reset 8
  moreHid := []
  handler := .idle
  renderer := .idle
  kpLines := 0xFFFF
  ledLog := []
  hostLog := []
  issuing := .p0
  agenda := []
  busAnswers := []
  jitterAnswers := []
  drawn := 0
  rdata := 0

end Sys2Proof.Machine
end

