-- ==== Sys2Proof/Machine/Operands.lean ====
section
/-!
DEFINITION. The operands of the operations: colours, HID reports, BUF words, the brightness operand,
and the layout of queue pointers (spec/30_encoding.md R72, R80; spec/20_memory.md R50, R57;
spec/41_led.md R105; spec/43_queue.md R130, R131).
-/

namespace Sys2Proof.Machine

/-- 0, 1, ..., 15: key indices, chain positions and event slots in order (R5). -/
def indices : List (Fin 16) :=
  [0, 1, 2, 3, 4, 5, 6, 7, 8, 9, 10, 11, 12, 13, 14, 15]

/-- DATA0[23:0] as a colour; bits 31:24 are ignored (R119). -/
def colorOperand (data0 : Word) : Color :=
  data0.extractLsb' 0 24

/-- The 8-byte keyboard report of DATA0 and DATA1 (R151, R153). -/
def reportOperand (data0 data1 : Word) : List Byte :=
  bytesOfWord data0 ++ bytesOfWord data1

/-- BUF word k: the word of BUF[4k..4k+3] (R57). -/
def bufWord (b : Entry) (k : Fin 17) : Word :=
  wordOfBytes b[4 * k.val] b[4 * k.val + 1] b[4 * k.val + 2] b[4 * k.val + 3]

/-- BUF[4k..4k+3] <- bytes(v) (R53, R57). -/
def setBufWord (b : Entry) (k : Fin 17) (v : Word) : Entry :=
  (((b.set (4 * k.val) (v.extractLsb' 0 8)).set (4 * k.val + 1) (v.extractLsb' 8 8)).set
    (4 * k.val + 2) (v.extractLsb' 16 8)).set (4 * k.val + 3) (v.extractLsb' 24 8)

/-- The number of significant bits of a natural number (R105, `bitlen`). -/
def bitLen (n : Nat) : Nat :=
  if n = 0 then 0 else Nat.log2 n + 1

/-- Round to 24 significant bits, to nearest, ties to even (R105, `RNE24`). -/
def rne24 (p : Nat) : Nat :=
  if bitLen p ≤ 24 then p
  else
    let sh := bitLen p - 24
    let hi := p >>> sh
    let lo := p % 2 ^ sh
    let half := 2 ^ (sh - 1)
    (hi + (if half < lo ∨ (lo = half ∧ hi % 2 = 1) then 1 else 0)) <<< sh

/-- The brightness level of a binary32 bit pattern (R105, `Level`). -/
def level (x : Word) : BitVec 5 :=
  let s := x.getLsbD 31
  let e := (x.extractLsb' 23 8).toNat
  let f := (x.extractLsb' 0 23).toNat
  if e = 0xFF ∧ f ≠ 0 then 0
  else if s then 0
  else if e = 0xFF then 31
  else if 127 ≤ e then 31
  else if e = 0 then 0
  else BitVec.ofNat 5 (rne24 (31 * (2 ^ 23 + f)) >>> (150 - e))

/-- ceil(750 * 10^6 / TICK_NS), the hold threshold in ticks (R95). -/
def holdTicks (c : Params) : Nat :=
  (750000000 + (c.tickNs - 1)) / c.tickNs

/-- The entry slot of a queue pointer: ptr mod 16, its low four bits (R35, R130). -/
def slotOf (ptr : BitVec 5) : Fin 16 :=
  (ptr.extractLsb' 0 4).toFin

/-- The true occupancy (wptr - rptr) mod 32 (R130). -/
def State.occupancy (s : State) : BitVec 5 :=
  s.wptr - s.rptr

/-- The producer view (wptr - rsync) mod 32 (R131). -/
def State.producerView (s : State) : BitVec 5 :=
  s.wptr - s.rsync

/-- The consumer view (wsync - rptr) mod 32 (R131). -/
def State.consumerView (s : State) : BitVec 5 :=
  s.wsync - s.rptr

end Sys2Proof.Machine
end

