-- ==== Sys2Proof/Machine/Flags.lean ====
section
/-!
DEFINITION. The flags and the words that show them: STATUS, the interrupt line, RECOVERY, the control
words of READ_CTRL, the USB flag word, the key flag word and the event word (spec/10_state.md R24,
R27, R39; spec/44_usb.md R159, R160; spec/45_system.md R175; spec/42_scanner.md R115, R117).
-/

namespace Sys2Proof.Machine

/-- The code of a result (R27). -/
def Result.code : Result → BitVec 8
  | .ok => 0
  | .empty => 1
  | .wouldBlock => 2
  | .errUsbState => 3
  | .errNotInit => 4
  | .errIllegal => 5
  | .errRange => 6
  | .errFatal => 7

/-- The USB interrupt line, a level (R159). -/
def State.irq (s : State) : Bool :=
  s.evPending && s.usbIrqEn

/-- The RECOVERY output (R184). -/
def State.recovery (s : State) : Bool :=
  s.fatal

/-- STATUS of a port whose RESULT is `r`: RESULT in bits 7:0, FATAL in bit 8, USB_IRQ in bit 9 (R24). -/
def State.statusWord (s : State) (r : Result) : Word :=
  (0 : BitVec 22) ++ BitVec.ofBool s.irq ++ BitVec.ofBool s.fatal ++ r.code

/-- READ_CTRL RESP0: usb_irq_en, usb_en, q_en, rng_en, clk_en in bits 4..0 (R175). -/
def State.enableWord (s : State) : Word :=
  (0 : BitVec 27) ++ BitVec.ofBool s.usbIrqEn ++ BitVec.ofBool s.usbEn ++ BitVec.ofBool s.qEn ++
    BitVec.ofBool s.rngEn ++ BitVec.ofBool s.clkEn

/-- READ_CTRL RESP1: fatal in bit 8, fatal_cause in bits 7:0 (R175). -/
def State.fatalWord (s : State) : Word :=
  (0 : BitVec 23) ++ BitVec.ofBool s.fatal ++ s.fatalCause

/-- The flags of a list as bits 0, 1, ... of a word. -/
def flagBits : List Bool → Word
  | [] => 0
  | b :: bs => (BitVec.ofBool b).setWidth 32 ||| (flagBits bs <<< 1)

/-- The HID instances 0 .. NHID-1 in order (R150). -/
def State.hid (s : State) : List HidInstance :=
  s.kbd :: s.moreHid

/-- USB_STATE_READ RESP0 (R160). -/
def State.usbWord (s : State) : Word :=
  flagBits [s.configured, s.ctrlPending, s.evPending] |||
    (flagBits (s.hid.map HidInstance.inFull) <<< 8) |||
    (flagBits (s.hid.map HidInstance.outPending) <<< 16)

/-- USB_POLL RESP0: bit h for a drained OUT report of instance h, bit 8 for a completed
configuration (R154). -/
def State.pollWord (s : State) : Word :=
  flagBits (s.hid.map HidInstance.outPending) ||| ((BitVec.ofBool s.ctrlPending).setWidth 32 <<< 8)

/-- KEY_READ RESP0: pressed in bit 0, held in bit 1 (R117). -/
def Key.flagWord (k : Key) : Word :=
  (0 : BitVec 30) ++ BitVec.ofBool k.held ++ BitVec.ofBool k.pressed

/-- The kind of a key event (R115). -/
inductive EventKind where
  | pressed
  | held
  | released
  deriving DecidableEq, Repr

/-- Kind 1 = Pressed, 2 = Held, 3 = Released (R115). -/
def EventKind.code : EventKind → BitVec 2
  | .pressed => 1
  | .held => 2
  | .released => 3

/-- An event word: key index in bits 3:0, kind in bits 5:4 (R115). -/
def eventWord (i : Fin 16) (kind : EventKind) : Word :=
  (0 : BitVec 26) ++ kind.code ++ (BitVec.ofFin i : BitVec 4)

end Sys2Proof.Machine
end

