-- ==== Sys2Proof/Machine/Ops.lean ====
section
/-!
DEFINITION. The operations every meaning is built from: the port registers, the result code, the fatal
path and the return from it, the interrupt handler's entry and return, the oracles, the event list, and
the front end all operations pass (spec/10_state.md R20 to R27; spec/60_exceptions.md R183, R187;
spec/70_reset_and_hazards.md R200; spec/45_system.md R170, R171).
-/

namespace Sys2Proof.Machine

/-- The registers of a port (R20). -/
def State.port (s : State) : Port → PortRegs
  | .p0 => s.p0
  | .p1 => s.p1
  | .p2 => s.p2

/-- Replace the registers of a port; no register is shared between ports (R20). -/
def State.setPort (s : State) (p : Port) (r : PortRegs) : State :=
  { s with
    p0 := if p = .p0 then r else s.p0
    p1 := if p = .p1 then r else s.p1
    p2 := if p = .p2 then r else s.p2 }

/-- The state in which port p issues (the p of Dispatch(p, w), R170; notes/assumptions/2.md). -/
def State.onPort (s : State) (p : Port) : State :=
  { s with issuing := p }

/-- `result(c)`: RESULT of the issuing port (R8, R24). -/
def State.setResult (s : State) (c : Result) : State :=
  s.setPort s.issuing { s.port s.issuing with result := c }

/-- `port[p].RESP0 <- v` for the issuing port (R25). -/
def State.setResp0 (s : State) (v : Word) : State :=
  s.setPort s.issuing { s.port s.issuing with resp0 := v }

/-- `port[p].RESP1 <- v` for the issuing port (R25). -/
def State.setResp1 (s : State) (v : Word) : State :=
  s.setPort s.issuing { s.port s.issuing with resp1 := v }

/-- `port[p].RESP2 <- v` for the issuing port (R25). -/
def State.setResp2 (s : State) (v : Word) : State :=
  s.setPort s.issuing { s.port s.issuing with resp2 := v }

/-- BUF of the issuing port (R26). -/
def State.setBuf (s : State) (b : Entry) : State :=
  s.setPort s.issuing { s.port s.issuing with buf := b }

/-- `raise Fatal(c)` (R183): the first cause is kept, the block is fatal, and RESULT of the issuing
port is ERR_FATAL. -/
def State.raiseFatal (s : State) (c : BitVec 8) : State :=
  { s with fatal := true, fatalCause := if s.fatal then s.fatalCause else c }.setResult .errFatal

/-- Fatal cause KEYPAD_BUS_FAIL (R181). -/
def causeKeypadBus : BitVec 8 := 0x01

/-- Fatal cause LED_BUS_FAIL (R181). -/
def causeLedBus : BitVec 8 := 0x02

/-- Fatal cause STARTUP_ORDER (R181). -/
def causeStartupOrder : BitVec 8 := 0x03

/-- The least fatal cause software may request (R176, R181). -/
def causeSoftwareMin : BitVec 8 := 0x10

/-- RESET, the only way out of the fatal state (R190, R200, R201): block state to its reset values,
q_mem to a free value (R40), P1 and P2 idle; the environment (R202), the parameters and the model's own
inputs are untouched. -/
def State.resetBlock (s : State) : State :=
  { State.reset with
    cfg := s.cfg
    moreHid := s.cfg.moreInLen.map HidInstance.reset
    qMem := Config.freeQMem s.drawn
    kpLines := s.kpLines
    ledLog := s.ledLog
    hostLog := s.hostLog
    issuing := s.issuing
    agenda := s.agenda
    busAnswers := s.busAnswers
    jitterAnswers := s.jitterAnswers
    drawn := s.drawn + 1
    rdata := s.rdata }

/-- `enter` is enabled exactly when irq = 1 and P1 is Idle; it is not nested (R187). -/
def State.mayEnter (s : State) : Bool :=
  s.irq && s.handler == .idle

/-- `enter`: P1 moves to InISR (R187). -/
def State.enterHandler (s : State) : State :=
  { s with handler := .inIsr false false }

/-- `return`: P1 moves back to Idle (R187). -/
def State.leaveHandler (s : State) : State :=
  { s with handler := .idle }

/-- Whether P1 is in its handler, so that P0 takes no step (R7, R187). -/
def State.inHandler (s : State) : Bool :=
  s.handler != .idle

/-- BUSOK's next answer (R6): the listed one, or past the list a free value. -/
def State.busAnswer (s : State) : Bool :=
  match s.busAnswers with
  | b :: _ => b
  | [] => Config.busOk s.drawn

/-- The state after BUSOK has been asked once. -/
def State.busAsked (s : State) : State :=
  match s.busAnswers with
  | _ :: rest => { s with busAnswers := rest }
  | [] => { s with drawn := s.drawn + 1 }

/-- JITTER's next raw draw. -/
def State.jitterRaw (s : State) : Word :=
  match s.jitterAnswers with
  | r :: _ => r
  | [] => Config.jitter s.drawn

/-- JITTER's next answer in [lo, hi) (R93): a raw draw brought into the range, under no other law. -/
def State.jitterAnswer (s : State) (lo hi : Word) : Word :=
  lo + s.jitterRaw % (hi - lo)

/-- The state after JITTER has been asked once. -/
def State.jitterAsked (s : State) : State :=
  match s.jitterAnswers with
  | _ :: rest => { s with jitterAnswers := rest }
  | [] => { s with drawn := s.drawn + 1 }

/-- Append to led_log (R102). -/
def State.logLed (s : State) (x : LedSend) : State :=
  { s with ledLog := s.ledLog ++ [x] }

/-- Empty the event list: `evt_count <- 0` (R113, R34). -/
def State.clearEvents (s : State) : State :=
  { s with evtCount := 0 }

/-- `emit(i, kind)`: append one event word to the event list (R115). -/
def State.emit (s : State) (i : Fin 16) (kind : EventKind) : State :=
  { s with evt := s.evt.setIfInBounds s.evtCount (eventWord i kind), evtCount := s.evtCount + 1 }

/-- Replace the record of one key (R31). -/
def State.setKey (s : State) (i : Fin 16) (k : Key) : State :=
  { s with keys := s.keys.set i.val k }

/-- NOP and READ_CTRL, which still run in the fatal state (R170, step 1). -/
def Instr.runsWhenFatal : Instr → Bool
  | .nop => true
  | .readCtrl => true
  | _ => false

/-- Ports(op), the ports allowed to issue an operation (R171). -/
def Instr.ports : Instr → List Port
  | .nop => [.p0, .p1, .p2]
  | .init _ => [.p0]
  | .irqEn _ => [.p0]
  | .readCtrl => [.p0, .p1, .p2]
  | .fatalReq _ => [.p0, .p1, .p2]
  | .scan => [.p0]
  | .evtRead _ => [.p0]
  | .keyRead _ => [.p0]
  | .keyColorRead _ => [.p0]
  | .keySetColor _ _ => [.p0]
  | .keyBcastColor _ => [.p0]
  | .ledSetBrightness => [.p0]
  | .clkRead => [.p0, .p1, .p2]
  | .rngRead => [.p0, .p1, .p2]
  | .qPush => [.p0, .p1]
  | .qPop => [.p2]
  | .qLevel => [.p0, .p1, .p2]
  | .usbPushKbd => [.p0]
  | .usbPoll => [.p1]
  | .usbStateRead => [.p0, .p1, .p2]

/-- Startup order for the Renderer context: P2 issues a word before CLK and Q are initialised (R170,
step 2; R204). -/
def State.startsTooEarly (s : State) : Bool :=
  s.issuing == .p2 && (!s.clkEn || !s.qEn)

/-- Dispatch (R170) after Decode: the checks common to all words, in their order. `runsFatal` holds
for NOP and READ_CTRL, `permitted` when the word is an operation the issuing port may issue, and
`rule` is the operation's own rule. -/
def frontEnd (runsFatal permitted : Bool) (rule : State → State) (s : State) : State :=
  if s.fatal && !runsFatal then s.setResult .errFatal
  else if s.startsTooEarly then s.raiseFatal causeStartupOrder
  else if !permitted then s.setResult .errIllegal
  else rule s

/-- Dispatch of a decoded operation with its own rule (R170). -/
def dispatchOp (i : Instr) (rule : State → State) (s : State) : State :=
  frontEnd (Instr.runsWhenFatal i) ((Instr.ports i).contains s.issuing) rule s

/-- Dispatch of an ILLEGAL word (R76, R170): it is no operation, so no rule runs. -/
def dispatchIllegal (s : State) : State :=
  frontEnd false false id s

end Sys2Proof.Machine
end

