-- ==== Sys2Proof/Machine/Clock.lean ====
section
/-!
DEFINITION. The clock and the entropy unit: CLK_READ and RNG_READ (spec/40_clock_entropy.md R90 to R95).
-/

namespace Sys2Proof.Machine

/-- CLK_READ's own rule (R91): both halves of one snapshot. -/
def clkReadRule (s : State) : State :=
  if !s.clkEn then s.setResult .errNotInit
  else ((s.setResp0 (s.clk.extractLsb' 0 32)).setResp1 (s.clk.extractLsb' 32 32)).setResult .ok

/-- CLK_READ (R91). -/
def execClkRead (s : State) : Out :=
  .next (dispatchOp .clkRead clkReadRule s)

/-- RNG_READ's own rule (R94), over the unsigned range [DATA0, DATA1). -/
def rngReadRule (s : State) : State :=
  let lo := (s.port s.issuing).data0
  let hi := (s.port s.issuing).data1
  if !s.rngEn then s.setResult .errNotInit
  else if hi ≤ lo then (s.setResp0 0).setResult .errRange
  else (s.jitterAsked.setResp0 (s.jitterAnswer lo hi)).setResult .ok

/-- RNG_READ (R94). -/
def execRngRead (s : State) : Out :=
  .next (dispatchOp .rngRead rngReadRule s)

end Sys2Proof.Machine
end

