-- ==== Sys2Proof/Machine/Led.lean ====
section
/-!
DEFINITION. The LED strip serializer: the frame, its bus transaction, and LED_SET_BRIGHTNESS
(spec/41_led.md R100 to R108; spec/20_memory.md R60).
-/

namespace Sys2Proof.Machine

/-- The brightness byte: marker 0b111 above the level (R101; notes/assumptions/16.md). -/
def State.brightByte (s : State) : Byte :=
  0xE0 ||| s.brightLevel.setWidth 8

/-- The colour the LED of key k shows: active while pressed (R107). -/
def State.ledColor (s : State) (k : Fin 16) : Color :=
  if s.keys[k].pressed then s.keys[k].actColor else s.keys[k].defColor

/-- The four bytes of chain position j: brightness, Blue, Green, Red (R100, R106). -/
def State.ledWord (s : State) (j : Fin 16) : List Byte :=
  let c := s.ledColor s.cfg.chainMap[j]
  [s.brightByte, c.extractLsb' 0 8, c.extractLsb' 8 8, c.extractLsb' 16 8]

/-- LedFrame(S) (R100). The end frame of 0xFF bytes is the spec's own reading (90_conflicts.md C4;
notes/assumptions/16.md). -/
def State.ledFrame (s : State) : List Byte :=
  [0x00, 0x00, 0x00, 0x00] ++ indices.flatMap s.ledWord ++ [0xFF, 0xFF, 0xFF, 0xFF]

/-- `send LED(frame)`: BUSOK is asked once and led_log records the outcome (R102). -/
def State.sendLed (s : State) (frame : List Byte) : State :=
  s.busAsked.logLed (if s.busAnswer then .complete frame else .aborted)

/-- What the LED bus lines do (R60, R102). -/
inductive LedWire where
  | selectLow
  | bit (b : Bool)
  | selectHigh
  deriving DecidableEq, Repr

/-- A byte most significant bit first (R60; notes/assumptions/16.md). -/
def byteBits (b : Byte) : List Bool :=
  [b.getLsbD 7, b.getLsbD 6, b.getLsbD 5, b.getLsbD 4, b.getLsbD 3, b.getLsbD 2, b.getLsbD 1,
    b.getLsbD 0]

/-- One complete LED bus transaction on the wire: the select line is low for the whole frame (R102). -/
def ledWire (frame : List Byte) : List LedWire :=
  .selectLow :: (frame.flatMap byteBits).map LedWire.bit ++ [.selectHigh]

/-- LED_SET_BRIGHTNESS's own rule (R104). -/
def ledSetBrightnessRule (s : State) : State :=
  { s with brightLevel := level (s.port s.issuing).data0 }.setResult .ok

/-- LED_SET_BRIGHTNESS (R104). -/
def execLedSetBrightness (s : State) : Out :=
  .next (dispatchOp .ledSetBrightness ledSetBrightnessRule s)

end Sys2Proof.Machine
end

