-- ==== Sys2Proof/Machine/Keys.lean ====
section
/-!
DEFINITION. The keypad scanner: the per-key state machine, SCAN, the event list and the key and colour
operations (spec/42_scanner.md R110 to R124).
-/

namespace Sys2Proof.Machine

/-- The two bytes of a successful keypad read: keys 0 to 7, then keys 8 to 15 (R59, R112). -/
def State.keypadBytes (s : State) : Byte × Byte :=
  (s.kpLines.extractLsb' 0 8, s.kpLines.extractLsb' 8 8)

/-- The pressed mask of a keypad read (R111): the bus word is little-endian and active-low. -/
def pressedMask (b0 b1 : Byte) : BitVec 16 :=
  ~~~(b1 ++ b0)

/-- The per-key state machine (R114): the key's new record and the event it emits. -/
def keyStep (hold : Nat) (k : Key) (b : Bool) (now : BitVec 64) : Key × Option EventKind :=
  match k.pressed, b with
  | false, true => ({ k with pressed := true, lastPress := now, held := false }, some .pressed)
  | true, true =>
    if hold ≤ (now - k.lastPress).toNat then ({ k with held := true }, some .held) else (k, none)
  | true, false => ({ k with pressed := false, held := false }, some .released)
  | false, false => (k, none)

/-- Append the event of a key, if it has one (R114, R115). -/
def State.emitOpt (s : State) (i : Fin 16) : Option EventKind → State
  | some kind => s.emit i kind
  | none => s

/-- Step(i, b, now) (R114). -/
def State.scanKey (s : State) (down : BitVec 16) (now : BitVec 64) (i : Fin 16) : State :=
  let r := keyStep (holdTicks s.cfg) s.keys[i] (down.getLsbD i.val) now
  (s.setKey i r.1).emitOpt i r.2

/-- Step for i in 0, 1, ..., 15, in index order, with one timestamp (R113). -/
def State.scanKeys (s : State) (down : BitVec 16) (now : BitVec 64) : State :=
  indices.foldl (fun t i => t.scanKey down now i) s

/-- The part of SCAN after a successful keypad read (R113). -/
def State.scanRead (s : State) : State :=
  let (b0, b1) := s.keypadBytes
  let t := s.scanKeys (pressedMask b0 b1) s.clk
  (t.setResp0 (BitVec.ofNat 32 t.evtCount)).setResult .ok

/-- SCAN's own rule (R113): one LED refresh, then one keypad read. -/
def scanRule (s : State) : State :=
  if !s.clkEn then s.setResult .errNotInit
  else
    let sent := s.clearEvents.sendLed s.ledFrame
    if !s.busAnswer then sent.raiseFatal causeLedBus
    else if !sent.busAnswer then sent.busAsked.raiseFatal causeKeypadBus
    else sent.busAsked.scanRead

/-- SCAN (R113). -/
def execScan (s : State) : Out :=
  .next (dispatchOp .scan scanRule s)

/-- EVT_READ's own rule (R116). -/
def evtReadRule (j : Fin 16) (s : State) : State :=
  if s.evtCount ≤ j.val then (s.setResp0 0).setResult .errRange
  else (s.setResp0 s.evt[j]).setResult .ok

/-- EVT_READ (R116). -/
def execEvtRead (j : Fin 16) (s : State) : Out :=
  .next (dispatchOp (.evtRead j) (evtReadRule j) s)

/-- KEY_READ's own rule (R117). -/
def keyReadRule (i : Fin 16) (s : State) : State :=
  (((s.setResp0 s.keys[i].flagWord).setResp1 (s.keys[i].lastPress.extractLsb' 0 32)).setResp2
    (s.keys[i].lastPress.extractLsb' 32 32)).setResult .ok

/-- KEY_READ (R117). -/
def execKeyRead (i : Fin 16) (s : State) : Out :=
  .next (dispatchOp (.keyRead i) (keyReadRule i) s)

/-- KEY_COLOR_READ's own rule (R118). -/
def keyColorReadRule (i : Fin 16) (s : State) : State :=
  ((s.setResp0 (s.keys[i].defColor.setWidth 32)).setResp1
    (s.keys[i].actColor.setWidth 32)).setResult .ok

/-- KEY_COLOR_READ (R118). -/
def execKeyColorRead (i : Fin 16) (s : State) : Out :=
  .next (dispatchOp (.keyColorRead i) (keyColorReadRule i) s)

/-- Write the selected colour of a key (R119). -/
def Key.setColor (k : Key) (sel : ColorSel) (c : Color) : Key :=
  match sel with
  | .defColor => { k with defColor := c }
  | .actColor => { k with actColor := c }

/-- KEY_SET_COLOR's own rule (R119). -/
def keySetColorRule (sel : ColorSel) (i : Fin 16) (s : State) : State :=
  (s.setKey i (s.keys[i].setColor sel (colorOperand (s.port s.issuing).data0))).setResult .ok

/-- KEY_SET_COLOR (R119). -/
def execKeySetColor (sel : ColorSel) (i : Fin 16) (s : State) : Out :=
  .next (dispatchOp (.keySetColor sel i) (keySetColorRule sel i) s)

/-- The selected colour of every key, one key after the other (R120). -/
def State.setAllColors (s : State) (sel : ColorSel) (c : Color) : State :=
  indices.foldl (fun t i => t.setKey i (t.keys[i].setColor sel c)) s

/-- KEY_BCAST_COLOR's own rule (R120). -/
def keyBcastColorRule (sel : ColorSel) (s : State) : State :=
  (s.setAllColors sel (colorOperand (s.port s.issuing).data0)).setResult .ok

/-- KEY_BCAST_COLOR (R120). -/
def execKeyBcastColor (sel : ColorSel) (s : State) : Out :=
  .next (dispatchOp (.keyBcastColor sel) (keyBcastColorRule sel) s)

end Sys2Proof.Machine
end

