-- ==== Sys2Proof/Machine/Queue.lean ====
section
/-!
DEFINITION. The command queue: Q_PUSH, Q_POP and Q_LEVEL (spec/43_queue.md R130 to R138).
-/

namespace Sys2Proof.Machine

/-- The queue is full as the producers see it (R132). -/
def State.producerFull (s : State) : Bool :=
  s.producerView == 16

/-- Q_PUSH's own rule (R132): a push on a full queue drops the new item silently. -/
def qPushRule (s : State) : State :=
  if !s.qEn then s.setResult .errNotInit
  else if s.producerFull then s.setResult .ok
  else
    { s with
      qMem := s.qMem.set (slotOf s.wptr).val (s.port s.issuing).buf
      wptr := s.wptr + 1 }.setResult .ok

/-- Q_PUSH (R132). -/
def execQPush (s : State) : Out :=
  .next (dispatchOp .qPush qPushRule s)

/-- Q_POP's own rule (R133). -/
def qPopRule (s : State) : State :=
  if s.rptr = s.wsync then (s.setResp0 0).setResult .empty
  else
    (({ s with rptr := s.rptr + 1 }.setBuf s.qMem[slotOf s.rptr]).setResp0 1).setResult .ok

/-- Q_POP (R133). -/
def execQPop (s : State) : Out :=
  .next (dispatchOp .qPop qPopRule s)

/-- The occupancy as the issuing domain sees it (R131, R135). -/
def State.levelSeen (s : State) : BitVec 5 :=
  match s.issuing with
  | .p2 => s.consumerView
  | _ => s.producerView

/-- Q_LEVEL's own rule (R135). -/
def qLevelRule (s : State) : State :=
  if !s.qEn then s.setResult .errNotInit
  else (s.setResp0 (s.levelSeen.setWidth 32)).setResult .ok

/-- Q_LEVEL (R135). -/
def execQLevel (s : State) : Out :=
  .next (dispatchOp .qLevel qLevelRule s)

end Sys2Proof.Machine
end

