-- ==== Sys2Proof/Machine/System.lean ====
section
/-!
DEFINITION. The system operations NOP, INIT, IRQ_EN, READ_CTRL and FATAL_REQ
(spec/45_system.md R172 to R176).
-/

namespace Sys2Proof.Machine

/-- NOP's own rule (R172). -/
def nopRule (s : State) : State :=
  s.setResult .ok

/-- NOP (R172). -/
def execNop (s : State) : Out :=
  .next (dispatchOp .nop nopRule s)

/-- INIT's own rule (R173): the enable bits are set-only. -/
def initRule (mask : BitVec 4) (s : State) : State :=
  { s with
    clkEn := s.clkEn || mask.getLsbD 0
    rngEn := s.rngEn || mask.getLsbD 1
    qEn := s.qEn || mask.getLsbD 2
    usbEn := s.usbEn || mask.getLsbD 3 }.setResult .ok

/-- INIT (R173). -/
def execInit (mask : BitVec 4) (s : State) : Out :=
  .next (dispatchOp (.init mask) (initRule mask) s)

/-- IRQ_EN's own rule (R174). -/
def irqEnRule (v : Bool) (s : State) : State :=
  if v && !s.usbEn then s.raiseFatal causeStartupOrder
  else { s with usbIrqEn := v }.setResult .ok

/-- IRQ_EN (R174). -/
def execIrqEn (v : Bool) (s : State) : Out :=
  .next (dispatchOp (.irqEn v) (irqEnRule v) s)

/-- READ_CTRL's own rule (R175). -/
def readCtrlRule (s : State) : State :=
  (((s.setResp0 s.enableWord).setResp1 s.fatalWord).setResp2
    (s.brightLevel.setWidth 32)).setResult .ok

/-- READ_CTRL (R175). -/
def execReadCtrl (s : State) : Out :=
  .next (dispatchOp .readCtrl readCtrlRule s)

/-- FATAL_REQ's own rule (R176): causes below 0x10 belong to the hardware. -/
def fatalReqRule (cause : BitVec 8) (s : State) : State :=
  if cause < causeSoftwareMin then s.setResult .errIllegal else s.raiseFatal cause

/-- FATAL_REQ (R176). -/
def execFatalReq (cause : BitVec 8) (s : State) : Out :=
  .next (dispatchOp (.fatalReq cause) (fatalReqRule cause) s)

end Sys2Proof.Machine
end

