-- ==== Sys2Proof/Machine/Usb.lean ====
section
/-!
DEFINITION. The USB HID endpoint controller: USB_PUSH_KBD, USB_POLL, USB_STATE_READ and the steps of
the USB host (spec/44_usb.md R150 to R164).
-/

namespace Sys2Proof.Machine

/-- USB_PUSH_KBD's own rule (R153). -/
def usbPushKbdRule (s : State) : State :=
  if !s.usbEn then s.setResult .errNotInit
  else if !s.configured then (s.setResp0 0).setResult .errUsbState
  else if s.kbd.inFull then (s.setResp0 0).setResult .wouldBlock
  else
    ({ s with
      kbd := { s.kbd with
        inFull := true
        inBuf := reportOperand (s.port s.issuing).data0 (s.port s.issuing).data1 } }.setResp0
      8).setResult .ok

/-- USB_PUSH_KBD (R153). -/
def execUsbPushKbd (s : State) : Out :=
  .next (dispatchOp .usbPushKbd usbPushKbdRule s)

/-- The OUT report of an instance, if any, is read and discarded (R154). -/
def HidInstance.drainOut (h : HidInstance) : HidInstance :=
  { h with outPending := false }

/-- USB_POLL's own rule (R154). -/
def usbPollRule (s : State) : State :=
  if !s.usbEn then s.setResult .errNotInit
  else
    ({ s with
      configured := s.configured || s.ctrlPending
      ctrlPending := false
      kbd := s.kbd.drainOut
      moreHid := s.moreHid.map HidInstance.drainOut
      evPending := false }.setResp0 s.pollWord).setResult .ok

/-- USB_POLL (R154). -/
def execUsbPoll (s : State) : Out :=
  .next (dispatchOp .usbPoll usbPollRule s)

/-- USB_STATE_READ's own rule (R160). -/
def usbStateReadRule (s : State) : State :=
  if !s.usbEn then s.setResult .errNotInit
  else (s.setResp0 s.usbWord).setResult .ok

/-- USB_STATE_READ (R160). -/
def execUsbStateRead (s : State) : Out :=
  .next (dispatchOp .usbStateRead usbStateReadRule s)

/-- HOST CONFIGURE is enabled (R155). -/
def State.mayConfigure (s : State) : Bool :=
  s.usbEn && !s.configured && !s.ctrlPending

/-- HOST CONFIGURE (R155). -/
def State.hostConfigure (s : State) : State :=
  { s with ctrlPending := true, evPending := true }

/-- An instance after a bus reset: no report in either direction, its buffer all zero (R156). -/
def HidInstance.busReset (h : HidInstance) : HidInstance :=
  HidInstance.reset h.inBuf.length

/-- HOST RESET (R156), enabled while usb_en = 1. -/
def State.hostReset (s : State) : State :=
  { s with
    configured := false
    ctrlPending := false
    kbd := s.kbd.busReset
    moreHid := s.moreHid.map HidInstance.busReset
    evPending := true }

/-- Instance h, if h < NHID (R150). -/
def State.hidAt? (s : State) (h : Nat) : Option HidInstance :=
  s.hid[h]?

/-- Change instance h. -/
def State.modifyHid (s : State) (h : Nat) (f : HidInstance → HidInstance) : State :=
  match h with
  | 0 => { s with kbd := f s.kbd }
  | n + 1 => { s with moreHid := s.moreHid.modify n f }

/-- HOST TAKE_IN(h) is enabled (R157). -/
def State.mayTake (s : State) (h : Nat) : Bool :=
  s.usbEn && s.configured && (s.hidAt? h).any (fun x => x.inFull)

/-- HOST TAKE_IN(h): the report goes to host_log and the buffer keeps its bytes (R157). -/
def State.hostTake (s : State) (h : Nat) : State :=
  { s.modifyHid h (fun x => { x with inFull := false }) with
    hostLog := s.hostLog ++ (s.hidAt? h).toList.map (fun x => (h, x.inBuf))
    evPending := true }

/-- HOST SEND_OUT(h) is enabled (R158). -/
def State.maySendOut (s : State) (h : Nat) : Bool :=
  s.usbEn && s.configured && (s.hidAt? h).any (fun x => !x.outPending)

/-- HOST SEND_OUT(h) (R158); the content is not modelled (R152). -/
def State.hostOut (s : State) (h : Nat) : State :=
  { s.modifyHid h (fun x => { x with outPending := true }) with evPending := true }

end Sys2Proof.Machine
end

