-- ==== Sys2Proof/Machine/Dispatch.lean ====
section
/-!
DEFINITION. The dispatch of the operations to their meanings, one arm per constructor of Instr
(spec/30_encoding.md R74).
-/

namespace Sys2Proof.Machine

/-- The effect of an operation issued on port `s.issuing` (R9, R170). -/
def exec (i : Instr) (s : State) : Host.Outcome State Fault Refusal :=
  match i with
  | .nop => Sys2Proof.Machine.execNop s
  | .init mask => Sys2Proof.Machine.execInit mask s
  | .irqEn v => Sys2Proof.Machine.execIrqEn v s
  | .readCtrl => Sys2Proof.Machine.execReadCtrl s
  | .fatalReq cause => Sys2Proof.Machine.execFatalReq cause s
  | .scan => Sys2Proof.Machine.execScan s
  | .evtRead idx => Sys2Proof.Machine.execEvtRead idx s
  | .keyRead idx => Sys2Proof.Machine.execKeyRead idx s
  | .keyColorRead idx => Sys2Proof.Machine.execKeyColorRead idx s
  | .keySetColor sel key => Sys2Proof.Machine.execKeySetColor sel key s
  | .keyBcastColor sel => Sys2Proof.Machine.execKeyBcastColor sel s
  | .ledSetBrightness => Sys2Proof.Machine.execLedSetBrightness s
  | .clkRead => Sys2Proof.Machine.execClkRead s
  | .rngRead => Sys2Proof.Machine.execRngRead s
  | .qPush => Sys2Proof.Machine.execQPush s
  | .qPop => Sys2Proof.Machine.execQPop s
  | .qLevel => Sys2Proof.Machine.execQLevel s
  | .usbPushKbd => Sys2Proof.Machine.execUsbPushKbd s
  | .usbPoll => Sys2Proof.Machine.execUsbPoll s
  | .usbStateRead => Sys2Proof.Machine.execUsbStateRead s

end Sys2Proof.Machine
end

