-- ==== Sys2Proof/Machine/Display.lean ====
section
/-!
DEFINITION. The display commands that travel through the queue, their 68-byte layout, and what the
consumer must do with an entry (spec/43_queue.md R139 to R142). The queue itself does not read them.
-/

namespace Sys2Proof.Machine

/-- The closed set of display variants (R140). The type also admits a message over 64 bytes and a name over
16, which R139's layout does not have (notes/assumptions/26.md). -/
inductive DisplayCommand where
  | clear
  | splash
  | panic (message : List Byte)
  | home (layerId : Byte) (layerName : List Byte) (layerColor : Color)
  | selector
  | settings
  deriving DecidableEq, Repr

/-- An entry from its first bytes; the bytes past them, which mean nothing, are 0
(notes/assumptions/17.md). -/
def entryOfBytes (l : List Byte) : Entry :=
  ⟨((l ++ List.replicate 68 0).take 68).toArray, by simp⟩

/-- The entry a producer stages for a command (R139). The layout has no Panic message over 64 bytes and no
Home name over 16; for one, the first 64 or 16 bytes are staged and LEN is the length modulo 256: a DESIGN
CHOICE (notes/assumptions/26.md). -/
def DisplayCommand.entry : DisplayCommand → Entry
  | .clear => entryOfBytes [0]
  | .splash => entryOfBytes [1]
  | .panic message => entryOfBytes ([2, BitVec.ofNat 8 message.length, 0, 0] ++ message)
  | .home layerId layerName c =>
    entryOfBytes ([3, BitVec.ofNat 8 layerName.length, layerId, 0] ++
      (layerName ++ List.replicate 16 0).take 16 ++
      [c.extractLsb' 0 8, c.extractLsb' 8 8, c.extractLsb' 16 8])
  | .selector => entryOfBytes [4]
  | .settings => entryOfBytes [5]

/-- The command an entry stands for, if it is one of the closed set (R139, R140). An entry with TAG 3 and
LEN > 16 is read as no command: a DESIGN CHOICE (notes/assumptions/25.md). -/
def commandOfEntry (e : Entry) : Option DisplayCommand :=
  let len := e[1].toNat
  match e[0].toNat with
  | 0 => some .clear
  | 1 => some .splash
  | 2 => if len ≤ 64 then some (.panic ((e.toList.drop 4).take len)) else none
  | 3 => if len ≤ 16 then
      some (.home e[2] ((e.toList.drop 4).take len) (e[22] ++ e[21] ++ e[20]))
    else none
  | 4 => some .selector
  | 5 => some .settings
  | _ => none

/-- What the consumer does with an entry (R142). -/
inductive ConsumerAction where
  /-- It renders the command. -/
  | render
  /-- It issues FATAL_REQ 0x10, SW_UNHANDLED_COMMAND. -/
  | requestFatal
  deriving DecidableEq, Repr

/-- The consumer's duty for an entry: Clear, Splash and well-formed Panic are rendered, every other
entry leads to the fatal path (R142). -/
def consumerAction (e : Entry) : ConsumerAction :=
  match e[0].toNat with
  | 0 => .render
  | 1 => .render
  | 2 => if e[1].toNat ≤ 64 then .render else .requestFatal
  | _ => .requestFatal

end Sys2Proof.Machine
end

