-- ==== Sys2Proof/WellFormed.lean ====
section
/-!
DEFINITION. Well-formed terms: what the spec asks of a machine's parameters (spec/00_scope.md R5) and
of a software access (spec/20_memory.md R52, R55). An operation (Sys2Proof.Instr) needs no check: its
field types are exactly the fields' widths (spec/30_encoding.md R71, R72), so every term is one the
encoding admits.
-/

namespace Sys2Proof

/-- BLOCK_BASE is 256-byte aligned (R51). -/
def Params.baseAligned (c : Params) : Bool :=
  c.blockBase % 256 == 0

/-- The tick period is a positive number of nanoseconds (R90); that it is a whole number is a DESIGN
CHOICE (notes/assumptions/24.md). -/
def Params.tickPositive (c : Params) : Bool :=
  0 < c.tickNs

/-- CHAIN_MAP is a permutation of 0..15: no key stands at two chain positions (R106). -/
def Params.chainPermutes (c : Params) : Bool :=
  decide c.chainMap.toList.Nodup

/-- NHID is in 1..3 (R150). -/
def Params.nhidInRange (c : Params) : Bool :=
  decide (c.nhid ≤ 3)

/-- Well-formed parameters. -/
def Params.wf (c : Params) : Bool :=
  c.baseAligned && c.tickPositive && c.chainPermutes && c.nhidInRange

namespace Machine

/-- The width of an access in bytes. -/
def Access.width : Access → Nat
  | .read w _ => w
  | .write w _ _ => w

/-- The address of an access. -/
def Access.addr : Access → Nat
  | .read _ a => a
  | .write _ a _ => a

/-- A 32-bit access at an address that is a multiple of 4: the only form HDK admits (R55). -/
def Access.wf (x : Access) : Bool :=
  x.width == 4 && x.addr % 4 == 0

end Machine

end Sys2Proof
end

