-- ==== Sys2Proof/Machine/Window.lean ====
section
/-!
DEFINITION. The register window: which register an address reaches, what a read of it returns and what
a write of it stores (spec/20_memory.md R50 to R58).
-/

namespace Sys2Proof.Machine

/-- A register of a port window (R53). -/
inductive Reg where
  | cmd
  | data0
  | data1
  | resp0
  | resp1
  | resp2
  | status
  | buf (k : Fin 17)
  | reserved
  deriving DecidableEq, Repr

/-- The register at an offset of a port window (R53). -/
def regAt (off : Nat) : Reg :=
  if off = 0x00 then .cmd
  else if off = 0x04 then .data0
  else if off = 0x08 then .data1
  else if off = 0x0C then .resp0
  else if off = 0x10 then .resp1
  else if off = 0x14 then .resp2
  else if off = 0x18 then .status
  else if h : 0x40 ≤ off ∧ off ≤ 0x80 ∧ off % 4 = 0 then .buf ⟨(off - 0x40) / 4, by omega⟩
  else .reserved

/-- The port whose window holds an address, and the offset in it (R51, R52). -/
def windowPlace (c : Params) (addr : Nat) : Option (Port × Nat) :=
  if addr < c.blockBase then none
  else
    match (addr - c.blockBase) / 0x100 with
    | 0 => some (.p0, (addr - c.blockBase) % 0x100)
    | 1 => some (.p1, (addr - c.blockBase) % 0x100)
    | 2 => some (.p2, (addr - c.blockBase) % 0x100)
    | _ => none

/-- Where an access that HDK admits lands (R52, R55). -/
def Access.place (x : Access) (c : Params) : Option (Port × Nat) :=
  if x.wf then windowPlace c x.addr else none

/-- The stop of an access that HDK does not admit: an address that does not belong to HDK (R51), or
another width or alignment (R55). -/
def Access.stop (x : Access) (c : Params) : Out :=
  match windowPlace c x.addr with
  | none => .fault .outsideWindow
  | some _ => .refused .badAccess

/-- The value a read of a register returns; it changes nothing (R53, R54, R56). -/
def State.readReg (s : State) (p : Port) : Reg → Word
  | .cmd => 0
  | .data0 => (s.port p).data0
  | .data1 => (s.port p).data1
  | .resp0 => (s.port p).resp0
  | .resp1 => (s.port p).resp1
  | .resp2 => (s.port p).resp2
  | .status => s.statusWord (s.port p).result
  | .buf k => bufWord (s.port p).buf k
  | .reserved => 0

/-- MemRead(a, 4) (R52). -/
def State.memRead (s : State) (addr : Nat) : Option Word :=
  match (Access.read 4 addr).place s.cfg with
  | some (p, off) => some (s.readReg p (regAt off))
  | none => none

/-- A write of a register other than CMD: DATA0, DATA1 and BUF store it, the rest ignores it (R53,
R54). -/
def State.writeReg (s : State) (p : Port) (r : Reg) (v : Word) : State :=
  match r with
  | .data0 => s.setPort p { s.port p with data0 := v }
  | .data1 => s.setPort p { s.port p with data1 := v }
  | .buf k => s.setPort p { s.port p with buf := setBufWord (s.port p).buf k v }
  | _ => s

/-- The index of a port (R51). -/
def Port.index : Port → Nat
  | .p0 => 0
  | .p1 => 1
  | .p2 => 2

/-- The offset of a register in its window; any reserved register is written as 0x1C (R53). -/
def Reg.offset : Reg → Nat
  | .cmd => 0x00
  | .data0 => 0x04
  | .data1 => 0x08
  | .resp0 => 0x0C
  | .resp1 => 0x10
  | .resp2 => 0x14
  | .status => 0x18
  | .buf k => 0x40 + 4 * k.val
  | .reserved => 0x1C

/-- The address of a register of a port (R51, R53). -/
def regAddr (c : Params) (p : Port) (r : Reg) : Nat :=
  c.blockBase + 0x100 * p.index + r.offset

/-- The access `P<p>: wr r, v`, or for CMD the issue of an operation (R78). -/
def writeAccess (c : Params) (p : Port) (r : Reg) (v : Word) : Access :=
  .write 4 (regAddr c p r) v

end Sys2Proof.Machine
end

