-- ==== Sys2Proof/Machine/Run.lean ====
section
/-!
DEFINITION. What one step of one agent does: the issue of an operation, an access to the window, the
roles of the three software contexts, and the environment's steps (spec/00_scope.md R6, R7, R9;
spec/45_system.md R170; spec/60_exceptions.md R187; spec/43_queue.md R141).
-/

namespace Sys2Proof.Machine

/-- A write of w to port[p].CMD: Dispatch(p, w) (R22, R170). -/
def State.issueCommand (s : State) (p : Port) (w : Word) : Out :=
  match decode w with
  | .ok i => exec i (s.onPort p)
  | .error _ => .next (dispatchIllegal (s.onPort p))

/-- An admitted access at an offset of a port window (R53). A read delivers its value and changes
nothing else (R56; notes/assumptions/9.md). -/
def State.accessAt (s : State) (x : Access) (p : Port) (off : Nat) : Out :=
  match x with
  | .read _ _ => .next { s with rdata := s.readReg p (regAt off) }
  | .write _ _ v =>
    match regAt off with
    | .cmd => s.issueCommand p v
    | r => .next (s.writeReg p r v)

/-- An access to the window, whoever makes it (R52, R192). -/
def State.access (s : State) (x : Access) : Out :=
  match x.place s.cfg with
  | some (p, off) => s.accessAt x p off
  | none => x.stop s.cfg

/-- The command word of an access at a window offset, if it is a write of CMD. -/
def commandOf (x : Access) (off : Nat) : Option Word :=
  match x with
  | .read _ _ => none
  | .write _ _ v => if regAt off = .cmd then some v else none

/-- A word decodes to a given operation. -/
def decodesTo (w : Word) (i : Instr) : Bool :=
  match decode w with
  | .ok j => j == i
  | .error _ => false

/-- The role of a context allows it to step now (R7, R141, R187): P0 not while P1 is in its handler, P1
only in its handler, P2 no Q_POP while it is drawing. The platform routes a context to its own window
(R52). -/
def State.roleAllows (s : State) (c : Port) (x : Access) : Bool :=
  match x.place s.cfg with
  | none => false
  | some (p, off) =>
    p == c &&
      match c with
      | .p0 => !s.inHandler
      | .p1 => s.inHandler
      | .p2 => s.renderer == .idle || !(commandOf x off).any (fun w => decodesTo w .qPop)

/-- The P1 agent after it has issued the word w (R187). -/
def handlerAfter (w : Word) (t : State) : Handler :=
  match t.handler with
  | .idle => .idle
  | .inIsr polled waived =>
    .inIsr (polled || decodesTo w .usbPoll) (waived || t.p1.result == .errFatal)

/-- The P2 agent after it has issued the word w (R141, R142): a successful Q_POP starts a drawing. -/
def rendererAfter (w : Word) (t : State) : Renderer :=
  match t.renderer with
  | .idle =>
    if decodesTo w .qPop && t.p2.result == .ok then .drawing t.p2.buf false else .idle
  | .drawing entry requested =>
    .drawing entry (requested || decodesTo w (.fatalReq 0x10))

/-- What an access of a context changes in that context's agent (R141, R187). -/
def State.noteRole (t : State) (c : Port) : Option Word → State
  | none => t
  | some w =>
    match c with
    | .p0 => t
    | .p1 => { t with handler := handlerAfter w t }
    | .p2 => { t with renderer := rendererAfter w t }

/-- Apply a function to the state of a next outcome. -/
def mapNext (f : State → State) : Out → Out
  | .next t => .next (f t)
  | .fault r => .fault r
  | .refused r => .refused r

/-- The command word an admitted access writes to CMD, if it is such a write. -/
def Access.command (x : Access) (c : Params) : Option Word :=
  match x.place c with
  | some (_, off) => commandOf x off
  | none => none

/-- A step of a software context in its role. -/
def State.contextStep (s : State) (c : Port) (x : Access) : Out :=
  if s.roleAllows c x then
    mapNext (fun t => t.noteRole c (x.command s.cfg)) (s.access x)
  else .refused .notEnabled

/-- P2 may end its drawing: it has rendered the entry, or, for an entry it must not render, it has
requested the fatal path (R141, R142). -/
def State.mayFinish (s : State) : Bool :=
  match s.renderer with
  | .idle => false
  | .drawing entry requested => consumerAction entry == .render || requested

/-- TICK: the counter counts while clk_en = 1, modulo 2^64 (R90). -/
def State.tick (s : State) : State :=
  if s.clkEn then { s with clk := s.clk + 1 } else s

/-- A step that is enabled or has no step. -/
def stepIf (enabled : Bool) (t : State) : Out :=
  if enabled then .next t else .refused .notEnabled

/-- One step of one agent (R6). -/
def State.perform (s : State) : Act → Out
  | .bus x => s.access x
  | .context c x => s.contextStep c x
  | .tick => stepIf s.clkEn s.tick
  | .syncW => .next { s with wsync := s.wptr }
  | .syncR => .next { s with rsync := s.rptr }
  | .hostConfigure => stepIf s.mayConfigure s.hostConfigure
  | .hostReset => stepIf s.usbEn s.hostReset
  | .hostTake h => stepIf (s.mayTake h) (s.hostTake h)
  | .hostOut h => stepIf (s.maySendOut h) (s.hostOut h)
  | .keypad lines => .next { s with kpLines := lines }
  | .enter => stepIf s.mayEnter s.enterHandler
  | .leave => stepIf s.inHandler s.leaveHandler
  | .renderDone => stepIf s.mayFinish { s with renderer := .idle }
  | .reset => .next s.resetBlock

/-- An agent's step exists in this state (R6). -/
def State.admits (s : State) : Act → Bool
  | .bus x => (x.place s.cfg).isSome
  | .context c x => s.roleAllows c x
  | .hostConfigure => s.mayConfigure
  | .hostReset => s.usbEn
  | .hostTake h => s.mayTake h
  | .hostOut h => s.maySendOut h
  | .enter => s.mayEnter
  | .leave => s.inHandler
  | .renderDone => s.mayFinish
  | .tick => s.clkEn
  | .syncW => true
  | .syncR => true
  | .keypad _ => true
  | .reset => true

/-- The next agent step: the first of the agenda, or past the agenda a free choice among the steps that
exist (R6, R189; notes/assumptions/1.md). -/
def State.nextAct (s : State) : Option Act :=
  match s.agenda with
  | a :: _ => some a
  | [] => if s.admits (Config.freeAct s.drawn) then some (Config.freeAct s.drawn) else none

/-- The state once the next agent step has been picked: it leaves the agenda, or a free value is
used up. -/
def State.picked (s : State) : State :=
  match s.agenda with
  | _ :: rest => { s with agenda := rest }
  | [] => { s with drawn := s.drawn + 1 }

/-- One step of the machine: the next agent's step, or, if a free choice names a step that does not
exist, no agent moves. -/
def takeStep (s : State) : Out :=
  match s.nextAct with
  | some a => s.picked.perform a
  | none => .next s.picked

/-- The port on which an operation is issued: the first of the ports that may issue it (R171); P0 for an
ILLEGAL word. -/
def issuePort (w : Word) : Port :=
  match decode w with
  | .ok i => (Instr.ports i).headD .p0
  | .error _ => .p0

/-- The state with the write of a command word to CMD as its next step (notes/assumptions/1.md). -/
def State.withCommand (s : State) (w : Word) : State :=
  { s with agenda := .bus (writeAccess s.cfg (issuePort w) .cmd w) :: s.agenda }

end Sys2Proof.Machine
end

