-- ==== Sys2Proof/Machine/Step.lean ====
section
/-!
DEFINITION. The step of the machine, and how a command word is placed so that the next step runs it.
HDK fetches no instructions (spec/00_scope.md R18): an operation runs when its word is written to a
port's CMD register (spec/10_state.md R22).
-/

namespace Sys2Proof.Machine

/-- One step: the next agent's step (spec/00_scope.md R6, R9). -/
def step (s : State) : Host.Outcome State Fault Refusal :=
  takeStep s

/-- The state whose very next step writes the command word `w` (of `nbits` bits) to the CMD register of
a port that may issue it. -/
def State.withFetchWord (s : State) (nbits w : Nat) : State :=
  s.withCommand (tableWord nbits w)

end Sys2Proof.Machine
end

