-- ==== Sys2Proof/Machine/Pseudo.lean ====
section
/-!
DEFINITION. The pseudo-instructions and their expansions into accesses of one port
(spec/30_encoding.md R79).
-/

namespace Sys2Proof.Machine

/-- A pseudo-instruction (R79). -/
inductive Pseudo where
  | setColor (key : Fin 16) (sel : ColorSel) (rgb : Color)
  | bcastActive (rgb : Color)
  | setBrightness (f : Word)
  | rand (lo hi : Word)
  | pushKbd (b : Vector Byte 8)
  | pushClear
  | pushSplash
  | enterRecovery
  | failUnhandled
  | boot
  deriving DecidableEq, Repr

/-- The register writes of a pseudo-instruction, in order; a write of CMD is an operation (R79). -/
def Pseudo.writes : Pseudo → List (Reg × Word)
  | .setColor k sel rgb => [(.data0, rgb.setWidth 32), (.cmd, encode (.keySetColor sel k))]
  | .bcastActive rgb => [(.data0, rgb.setWidth 32), (.cmd, encode (.keyBcastColor .actColor))]
  | .setBrightness f => [(.data0, f), (.cmd, encode .ledSetBrightness)]
  | .rand lo hi => [(.data0, lo), (.data1, hi), (.cmd, encode .rngRead)]
  | .pushKbd b =>
    [(.data0, wordOfBytes b[0] b[1] b[2] b[3]), (.data1, wordOfBytes b[4] b[5] b[6] b[7]),
      (.cmd, encode .usbPushKbd)]
  | .pushClear => [(.buf 0, 0x00000000), (.cmd, encode .qPush)]
  | .pushSplash => [(.buf 0, 0x00000001), (.cmd, encode .qPush)]
  | .enterRecovery => [(.cmd, encode (.fatalReq 0x11))]
  | .failUnhandled => [(.cmd, encode (.fatalReq 0x10))]
  | .boot => [(.cmd, encode (.init 0b0111)), (.cmd, encode (.init 0b1000)), (.cmd, encode (.irqEn true))]

/-- The steps of a pseudo-instruction on port p (R79). -/
def Pseudo.expand (q : Pseudo) (c : Params) (p : Port) : List Act :=
  q.writes.map (fun x => .bus (writeAccess c p x.1 x.2))

end Sys2Proof.Machine
end

