-- ==== Sys2Proof/Safety.lean ====
section
/-!
DEFINITION. The terms claims about HDK are made in: when an operation passes the front end, the
invariants of the block, the queue as a list, what a step issues, runs, the duties of the software
contexts and the fairness of the agents (spec/45_system.md R170; spec/43_queue.md R136, R144;
spec/44_usb.md R161 to R164; spec/60_exceptions.md R187; spec/70_reset_and_hazards.md R203, R211).
-/

namespace Sys2Proof.Machine

/-- The least binary32 pattern with a level of at least k, for k = 1, 2, ..., 31
(95_test_vectors.md section 2.2: fl32(k/31)). -/
def levelThresholds : Vector Word 31 :=
  #v[0x3D042108, 0x3D842108, 0x3DC6318C, 0x3E042108, 0x3E25294A, 0x3E46318C, 0x3E6739CE, 0x3E842108,
    0x3E94A529, 0x3EA5294A, 0x3EB5AD6B, 0x3EC6318C, 0x3ED6B5AD, 0x3EE739CE, 0x3EF7BDEF, 0x3F042108,
    0x3F0C6319, 0x3F14A529, 0x3F1CE73A, 0x3F25294A, 0x3F2D6B5B, 0x3F35AD6B, 0x3F3DEF7C, 0x3F46318C,
    0x3F4E739D, 0x3F56B5AD, 0x3F5EF7BE, 0x3F6739CE, 0x3F6F7BDF, 0x3F77BDEF, 0x3F800000]

/-- The front end lets operation i of the issuing port through to its own rule (R170, R188). -/
def State.accepts (s : State) (i : Instr) : Bool :=
  (!s.fatal || Instr.runsWhenFatal i) && !s.startsTooEarly && (Instr.ports i).contains s.issuing

/-- The registers of the issuing port. -/
def State.regs (s : State) : PortRegs :=
  s.port s.issuing

/-- The state that differs from s in the issuing port's registers alone. -/
def State.withRegs (s : State) (r : PortRegs) : State :=
  s.setPort s.issuing r

/-- The RESP registers and BUF an operation may write besides RESULT (R80). -/
def Instr.answers : Instr → List Reg
  | .nop => []
  | .init _ => []
  | .irqEn _ => []
  | .readCtrl => [.resp0, .resp1, .resp2]
  | .fatalReq _ => []
  | .scan => [.resp0]
  | .evtRead _ => [.resp0]
  | .keyRead _ => [.resp0, .resp1, .resp2]
  | .keyColorRead _ => [.resp0, .resp1]
  | .keySetColor _ _ => []
  | .keyBcastColor _ => []
  | .ledSetBrightness => []
  | .clkRead => [.resp0, .resp1]
  | .rngRead => [.resp0]
  | .qPush => []
  | .qPop => [.resp0, .buf 0, .buf 1, .buf 2, .buf 3, .buf 4, .buf 5, .buf 6, .buf 7, .buf 8, .buf 9,
      .buf 10, .buf 11, .buf 12, .buf 13, .buf 14, .buf 15, .buf 16]
  | .qLevel => [.resp0]
  | .usbPushKbd => [.resp0]
  | .usbPoll => [.resp0]
  | .usbStateRead => [.resp0]

/-- The results an operation's own rule can return (R182). -/
def Instr.results : Instr → List Result
  | .nop => [.ok]
  | .init _ => [.ok]
  | .irqEn _ => [.ok, .errFatal]
  | .readCtrl => [.ok]
  | .fatalReq _ => [.errIllegal, .errFatal]
  | .scan => [.ok, .errNotInit, .errFatal]
  | .evtRead _ => [.ok, .errRange]
  | .keyRead _ => [.ok]
  | .keyColorRead _ => [.ok]
  | .keySetColor _ _ => [.ok]
  | .keyBcastColor _ => [.ok]
  | .ledSetBrightness => [.ok]
  | .clkRead => [.ok, .errNotInit]
  | .rngRead => [.ok, .errNotInit, .errRange]
  | .qPush => [.ok, .errNotInit]
  | .qPop => [.ok, .empty]
  | .qLevel => [.ok, .errNotInit]
  | .usbPushKbd => [.ok, .errNotInit, .errUsbState, .wouldBlock]
  | .usbPoll => [.ok, .errNotInit]
  | .usbStateRead => [.ok, .errNotInit]

/-- The recoverable errors (R180). -/
def Result.recoverable : Result → Bool
  | .ok => false
  | .empty => false
  | .wouldBlock => true
  | .errUsbState => true
  | .errNotInit => true
  | .errIllegal => true
  | .errRange => true
  | .errFatal => false

/-- Key i is down on the keypad lines (R110, R111). -/
def State.keyDown (s : State) (i : Fin 16) : Bool :=
  !s.kpLines.getLsbD i.val

/-- The event a completed SCAN of s reports for key i (R114). -/
def State.keyEvent (s : State) (i : Fin 16) : Option EventKind :=
  if s.keyDown i && !s.keys[i].pressed then some .pressed
  else if !s.keyDown i && s.keys[i].pressed then some .released
  else if s.keyDown i && decide (holdTicks s.cfg ≤ (s.clk - s.keys[i].lastPress).toNat) then
    some .held
  else none

/-- The event list: the words of the valid slots, in slot order (R34). -/
def State.events (s : State) : List Word :=
  s.evt.toList.take s.evtCount

/-- The invariants of the queue pointers: (a), (b) and (c) of R136. -/
structure QueueInv (s : State) : Prop where
  /-- (a) The queue holds at most 16 entries. -/
  occupancy_le : s.occupancy.toNat ≤ 16
  /-- (b) wsync lies between rptr and wptr. -/
  visible_le : s.consumerView.toNat ≤ s.occupancy.toNat
  /-- (c) rsync lies between wptr - 16 and rptr. -/
  freed_add : (s.rptr - s.rsync).toNat + s.occupancy.toNat = s.producerView.toNat
  producer_le : s.producerView.toNat ≤ 16

/-- The invariants of the USB unit (R150, R155 to R159, R163, R187). -/
structure UsbInv (s : State) : Prop where
  /-- in_buf[0] has HID_IN_LEN[0] = 8 bytes (R150). -/
  kbd_length : s.kbd.inBuf.length = 8
  /-- Instances 1 .. NHID-1 exist, with their report lengths (R150). -/
  more_lengths : s.moreHid.map (fun h => h.inBuf.length) = s.cfg.moreInLen
  /-- No operation fills an IN buffer of instances 1 .. NHID-1 (R163). -/
  more_empty : ∀ h ∈ s.moreHid, h.inFull = false
  /-- The interrupt is unmasked only once USB is initialised (R174, R187). -/
  irq_needs_usb : s.usbIrqEn = true → s.usbEn = true
  /-- The host acts only on an attached device (R155 to R158). -/
  event_needs_usb : s.evPending = true → s.usbEn = true
  pending_needs_usb : s.ctrlPending = true → s.usbEn = true
  configured_needs_usb : s.configured = true → s.usbEn = true
  /-- A configuration request waits only while the device is not configured (R155). -/
  pending_or_configured : s.ctrlPending = true → s.configured = false
  /-- Reports travel only on a configured device (R153, R157, R158). -/
  report_needs_configured : s.kbd.inFull = true → s.configured = true
  out_needs_configured : ∀ h ∈ s.hid, h.outPending = true → s.configured = true
  /-- P1 is in its handler only once USB is initialised (R187). -/
  handler_needs_usb : s.inHandler = true → s.usbEn = true

/-- The invariants of the key array and the event list (R34, R114, R115). -/
structure KeysInv (s : State) : Prop where
  /-- A key reports Held only while it is pressed (R114, R122). -/
  held_pressed : ∀ i : Fin 16, s.keys[i].held = true → s.keys[i].pressed = true
  /-- evt_count is in 0..16 (R34, R115). -/
  count_le : s.evtCount ≤ 16

/-- A cause that raise Fatal can record (R181). -/
def validCause (c : BitVec 8) : Bool :=
  c == 0x01 || c == 0x02 || c == 0x03 || 0x10 ≤ c

/-- The invariant of the fatal state (R29, R181). -/
structure FatalInv (s : State) : Prop where
  none_before : s.fatal = false → s.fatalCause = 0
  valid_after : s.fatal = true → validCause s.fatalCause = true

/-- The block's invariant, beside that of the queue. -/
structure State.Inv (s : State) : Prop where
  cfg_wf : s.cfg.wf = true
  usb : UsbInv s
  keys : KeysInv s
  fatal : FatalInv s

/-- The entry k places behind the read pointer. -/
def State.entryAt (s : State) (k : Nat) : Entry :=
  s.qMem[slotOf (s.rptr + BitVec.ofNat 5 k)]

/-- The queue as a list, oldest entry first (R130, R144). -/
def State.contents (s : State) : List Entry :=
  (List.range s.occupancy.toNat).map s.entryAt

/-- The keyboard reports that have left the pushes: those the host has taken, then the one that is
outstanding (R161, R164). -/
def State.reports (s : State) : List (List Byte) :=
  ((s.hostLog.filter (fun x => x.1 == 0)).map (fun x => x.2)) ++
    (if s.kbd.inFull then [s.kbd.inBuf] else [])

/-- The operation an access issues, and its port (R22). -/
def Access.operation (x : Access) (c : Params) : Option (Port × Instr) :=
  match x.place c with
  | none => none
  | some (p, off) =>
    match commandOf x off with
    | none => none
    | some w =>
      match decode w with
      | .ok i => some (p, i)
      | .error _ => none

/-- The operation the next step issues, and its port. -/
def State.issues (s : State) : Option (Port × Instr) :=
  match s.nextAct with
  | some (.bus x) => x.operation s.cfg
  | some (.context _ x) => x.operation s.cfg
  | _ => none

/-- The entries the step from s to s' stores: those of a Q_PUSH that was not dropped (R132, R144). -/
def storedEntries (s s' : State) : List Entry :=
  match s.issues with
  | some (p, .qPush) => if s'.wptr = s.wptr then [] else [(s.port p).buf]
  | _ => []

/-- The entries the step from s to s' returns: those of a Q_POP with RESULT = OK (R133, R144). -/
def returnedEntries (s s' : State) : List Entry :=
  match s.issues with
  | some (.p2, .qPop) => if s'.p2.result = .ok then [s'.p2.buf] else []
  | _ => []

/-- The first n steps of a run (R62). -/
def RunsFor (r : Nat → State) (n : Nat) : Prop :=
  ∀ k < n, step (r k) = .next (r (k + 1))

/-- No RESET within the first n steps (R201). -/
def NoReset (r : Nat → State) (n : Nat) : Prop :=
  ∀ k < n, (r k).nextAct ≠ some .reset

/-- All entries stored in the first n steps, in order. -/
def storedUpTo (r : Nat → State) (n : Nat) : List Entry :=
  (List.range n).flatMap (fun k => storedEntries (r k) (r (k + 1)))

/-- All entries returned in the first n steps, in order. -/
def returnedUpTo (r : Nat → State) (n : Nat) : List Entry :=
  (List.range n).flatMap (fun k => returnedEntries (r k) (r (k + 1)))

/-- The startup premise of the Renderer context: P2 issues its first operation only now (R203, R204). -/
def State.rendererMayStart (s : State) : Bool :=
  s.clkEn && s.qEn

/-- P1 has met its duty, or is released from it: it may return (R187). -/
def State.handlerDutyMet (s : State) : Bool :=
  match s.handler with
  | .idle => true
  | .inIsr polled waived => polled || waived

/-- This handler has issued USB_POLL (R211). -/
def State.handlerPolled (s : State) : Bool :=
  match s.handler with
  | .idle => false
  | .inIsr polled _ => polled

/-- P2 owes the fatal request of R142. -/
def State.rendererOwesFatal (s : State) : Bool :=
  match s.renderer with
  | .idle => false
  | .drawing entry requested => consumerAction entry == .requestFatal && !requested

/-- The step from s keeps the duties of the software contexts: P1 returns only once it has polled or is
released (R187). Whoever steps, P2's own duty is in State.mayFinish (R142). -/
def State.dutiful (s : State) : Prop :=
  s.nextAct = some .leave → s.handlerDutyMet = true

/-- An infinite run. -/
def IsRun (r : Nat → State) : Prop :=
  ∀ n, step (r n) = .next (r (n + 1))

/-- Weak fairness of a step: if it is enabled from some point on, it is taken after that point (R211). -/
def WeaklyFair (r : Nat → State) (enabled : State → Bool) (a : Act) : Prop :=
  ∀ n, (∀ m, n ≤ m → enabled (r m) = true) → ∃ m, n ≤ m ∧ (r m).nextAct = some a

/-- The fairness assumptions of R211: TICK while clk_en = 1, SYNC W, SYNC R, P1's enter while irq = 1, and
P1's return once the handler has polled. -/
structure Fair (r : Nat → State) : Prop where
  tick : WeaklyFair r (fun s => s.clkEn) .tick
  syncW : WeaklyFair r (fun _ => true) .syncW
  syncR : WeaklyFair r (fun _ => true) .syncR
  enter : WeaklyFair r (fun s => s.mayEnter) .enter
  leave : WeaklyFair r (fun s => s.handlerPolled) .leave

end Sys2Proof.Machine
end

