-- ==== Sys2Proof/Certificates/Slice0/Obligations.lean ====
section
/-!
DEFINITION. The statements about HDK that the provers settle. Each docstring names the rule of spec/ it
formalises. A conclusion `exec i s = .next t` gives t whole: every field of State that t does not name is
s's own, so it states the frame of the operation as well. HDK has no byte-addressed memory
(spec/20_memory.md R51): what software can address are the window's registers, which are fields of t.
-/

open Sys2Proof Sys2Proof.Machine

/-! ## Encoding -/

/-- R73, whole: at most one row matches a word, Decode gives that row's operation, and no row means
ILLEGAL. -/
def Obligations.DecodeIsTheMatchingRow : Prop :=
  opcodeMap.Pairwise (fun r r' => ∀ w, ¬(r.holds w = true ∧ r'.holds w = true)) ∧
    (∀ w, ∀ r ∈ opcodeMap, r.holds w = true → decode w = .ok (r.build w)) ∧
    ∀ w, (∀ r ∈ opcodeMap, r.holds w = false) → ∃ why, decode w = .error why

/-- R71 to R75: decoding an operation's word gives the operation back with every field, and a word that
decodes is that operation's only word, so a set reserved bit is never accepted. -/
def Obligations.DecodeAndEncodeAgree : Prop :=
  (∀ i, decode (encode i) = .ok i) ∧ ∀ w i, decode w = .ok i → encode i = w

/-- 95_test_vectors.md section 2.1: words written out from the formats of R71 decode to the operations
they stand for. -/
def Obligations.ListedWordsDecode : Prop :=
  decode 0x0100000F = .ok (.init 15) ∧ decode 0x02000001 = .ok (.irqEn true) ∧
    decode 0x040000FF = .ok (.fatalReq 0xFF) ∧ decode 0x1100000F = .ok (.evtRead 15) ∧
    decode 0x1400001F = .ok (.keySetColor .actColor 15) ∧
    decode 0x14000030 = .ok (.keyBcastColor .actColor) ∧ decode 0x41000000 = .ok .qPop ∧
    decode 0x51000000 = .ok .usbPoll ∧ decode 0x14000021 = .error .reservedBits ∧
    decode 0x05000000 = .error .reservedOpcode

/-! ## Issue and dispatch -/

/-- R22, R170: when the next step is a write of a word that decodes to i to the CMD register of port p, the
step is exec of i on port p, at the state from whose agenda that write is gone. The agenda is the model's
own field (notes/assumptions/1.md). -/
def Obligations.StepRunsTheDecodedOperation : Prop :=
  ∀ (s : State) (p : Port) (w : Word) (i : Instr) (rest : List Act),
    s.cfg.wf = true → s.agenda = .bus (writeAccess s.cfg p .cmd w) :: rest → decode w = .ok i →
    step s = exec i ({ s with agenda := rest }.onPort p)

/-- R76, R170 step 3: an ILLEGAL word writes ERR_ILLEGAL to the issuing port's RESULT and changes nothing
else. -/
def Obligations.IllegalWordOnlyWritesResult : Prop :=
  ∀ (s : State) (p : Port) (w : Word) (why : Illegal), decode w = .error why → s.fatal = false →
    (p = .p2 → s.clkEn = true ∧ s.qEn = true) →
    s.issueCommand p w =
      .next ((s.onPort p).withRegs { s.port p with result := .errIllegal })

/-- R170 step 1, R185: in the fatal state every word but NOP and READ_CTRL returns ERR_FATAL and changes
nothing else. -/
def Obligations.FatalBlockIsInert : Prop :=
  ∀ (s : State) (p : Port) (w : Word), s.fatal = true → decode w ≠ .ok .nop →
    decode w ≠ .ok .readCtrl →
    s.issueCommand p w =
      .next ((s.onPort p).withRegs { s.port p with result := .errFatal })

/-- R204, R170 step 2, R191: any word P2 issues while CLK or Q is not initialised is fatal, with cause
STARTUP_ORDER if it is the first fatal condition. (In the fatal state step 1 answers first, but for NOP
and READ_CTRL, with the same outcome.) -/
def Obligations.RendererBeforeInitIsFatal : Prop :=
  ∀ (s : State) (w : Word), s.clkEn = false ∨ s.qEn = false →
    s.issueCommand .p2 w =
      .next ({ s.onPort .p2 with
        fatal := true
        fatalCause := if s.fatal then s.fatalCause else 0x03 }.withRegs
          { s.p2 with result := .errFatal })

/-- R171, R170 step 3: an operation issued from a port that may not issue it returns ERR_ILLEGAL and
changes nothing else. -/
def Obligations.WrongPortIsIllegal : Prop :=
  ∀ (s : State) (i : Instr), s.issuing ∉ Instr.ports i → s.fatal = false →
    (s.issuing = .p2 → s.clkEn = true ∧ s.qEn = true) →
    exec i s = .next (s.withRegs { s.regs with result := .errIllegal })

/-! ## System operations -/

/-- R172: NOP changes nothing but RESULT, runs on every port and in the fatal state (fatal is free here; the
one premise is R170 step 2 for P2), and no other word with its OP is an operation. -/
def Obligations.NopOnlyWritesResult : Prop :=
  encode .nop = 0x00000000#32 ∧
    (∀ w : Word, w.extractLsb' 24 8 = 0 → w ≠ 0 → decode w = .error .reservedBits) ∧
    ∀ s : State, (s.issuing = .p2 → s.clkEn = true ∧ s.qEn = true) →
      exec .nop s = .next (s.withRegs { s.regs with result := .ok })

/-- R173, R29: INIT sets the enable bits its mask names and clears none, and no step but RESET disables a
unit. -/
def Obligations.InitSetsEnableBits : Prop :=
  (∀ m : BitVec 4, encode (.init m) = 0x01000000#32 ||| m.setWidth 32) ∧
    (∀ m, Instr.ports (.init m) = [.p0]) ∧
    (∀ (m : BitVec 4) (s : State), s.accepts (.init m) = true →
      exec (.init m) s =
        .next ({ s with
          clkEn := if m.getLsbD 0 then true else s.clkEn
          rngEn := if m.getLsbD 1 then true else s.rngEn
          qEn := if m.getLsbD 2 then true else s.qEn
          usbEn := if m.getLsbD 3 then true else s.usbEn }.withRegs { s.regs with result := .ok })) ∧
    ∀ s s' : State, step s = .next s' → s.nextAct ≠ some .reset →
      (s.clkEn = true → s'.clkEn = true) ∧ (s.rngEn = true → s'.rngEn = true) ∧
        (s.qEn = true → s'.qEn = true) ∧ (s.usbEn = true → s'.usbEn = true)

/-- R174: IRQ_EN writes usb_irq_en; unmasking before INIT USB is Fatal(STARTUP_ORDER). -/
def Obligations.IrqEnNeedsUsb : Prop :=
  (∀ v : Bool, encode (.irqEn v) = if v then 0x02000001#32 else 0x02000000#32) ∧
    (∀ v, Instr.ports (.irqEn v) = [.p0]) ∧
    ∀ s : State, (∀ v, s.accepts (.irqEn v) = true) →
      exec (.irqEn false) s =
          .next ({ s with usbIrqEn := false }.withRegs { s.regs with result := .ok }) ∧
        (s.usbEn = true →
          exec (.irqEn true) s =
            .next ({ s with usbIrqEn := true }.withRegs { s.regs with result := .ok })) ∧
        (s.usbEn = false →
          exec (.irqEn true) s =
            .next ({ s with fatal := true, fatalCause := 0x03 }.withRegs
              { s.regs with result := .errFatal }))

/-- R175: READ_CTRL gives the enable bits, the fatal state and the brightness level, on every port and in
the fatal state (fatal is free here; the one premise is R170 step 2 for P2). -/
def Obligations.ReadCtrlShowsControlState : Prop :=
  encode .readCtrl = 0x03000000#32 ∧
    ∀ s : State, (s.issuing = .p2 → s.clkEn = true ∧ s.qEn = true) →
      exec .readCtrl s =
        .next (s.withRegs { s.regs with
          resp0 := BitVec.ofNat 32 (s.clkEn.toNat + 2 * s.rngEn.toNat + 4 * s.qEn.toNat +
            8 * s.usbEn.toNat + 16 * s.usbIrqEn.toNat)
          resp1 := BitVec.ofNat 32 (256 * s.fatal.toNat + s.fatalCause.toNat)
          resp2 := BitVec.ofNat 32 s.brightLevel.toNat
          result := .ok })

/-- R176: FATAL_REQ refuses the causes below 0x10 and raises every other one. -/
def Obligations.FatalReqRaisesItsCause : Prop :=
  (∀ c : BitVec 8, encode (.fatalReq c) = 0x04000000#32 ||| c.setWidth 32) ∧
    (∀ c p, p ∈ Instr.ports (.fatalReq c)) ∧
    ∀ (c : BitVec 8) (s : State), s.accepts (.fatalReq c) = true →
      (c.toNat < 0x10 →
        exec (.fatalReq c) s = .next (s.withRegs { s.regs with result := .errIllegal })) ∧
      (0x10 ≤ c.toNat →
        exec (.fatalReq c) s =
          .next ({ s with fatal := true, fatalCause := c }.withRegs { s.regs with result := .errFatal }))

/-! ## Clock and entropy -/

/-- R91: CLK_READ returns one snapshot of the counter. -/
def Obligations.ClkReadReturnsOneSnapshot : Prop :=
  encode .clkRead = 0x30000000#32 ∧ (∀ p, p ∈ Instr.ports .clkRead) ∧
    ∀ s : State, s.accepts .clkRead = true →
      (s.clkEn = false →
        exec .clkRead s = .next (s.withRegs { s.regs with result := .errNotInit })) ∧
      (s.clkEn = true →
        ∃ lo hi : Word, hi ++ lo = s.clk ∧
          exec .clkRead s = .next (s.withRegs { s.regs with resp0 := lo, resp1 := hi, result := .ok }))

/-- R94, R93: RNG_READ returns some r with lo ≤ r < hi, whatever JITTER answers; an empty range is
ERR_RANGE. Only JITTER's own place (model inputs) moves besides the port. How JITTER's answers are held is
the model's choice (notes/assumptions/4.md). -/
def Obligations.RngReadStaysInRange : Prop :=
  encode .rngRead = 0x31000000#32 ∧ (∀ p, p ∈ Instr.ports .rngRead) ∧
    ∀ s : State, s.accepts .rngRead = true →
      (s.rngEn = false →
        exec .rngRead s = .next (s.withRegs { s.regs with result := .errNotInit })) ∧
      (s.rngEn = true → s.regs.data1.toNat ≤ s.regs.data0.toNat →
        exec .rngRead s = .next (s.withRegs { s.regs with resp0 := 0, result := .errRange })) ∧
      (s.rngEn = true → s.regs.data0.toNat < s.regs.data1.toNat →
        ∃ r : Word, s.regs.data0.toNat ≤ r.toNat ∧ r.toNat < s.regs.data1.toNat ∧
          exec .rngRead s = .next (s.jitterAsked.withRegs { s.regs with resp0 := r, result := .ok }))

/-- R30, R90, R92: a step leaves the clock, or is a TICK that adds 1 while clk_en = 1, or is a RESET. -/
def Obligations.ClockMovesOnlyByTick : Prop :=
  ∀ s s' : State, step s = .next s' → s.nextAct ≠ some .reset →
    s'.clk = s.clk ∨ (s.nextAct = some .tick ∧ s.clkEn = true ∧ s'.clk = s.clk + 1)

/-! ## LED strip -/

/-- R104, with the corner cases of R105: LED_SET_BRIGHTNESS writes Level(DATA0) to bright_level. That the
operand is a binary32 pattern is the spec's general knowledge (notes/assumptions/16.md). -/
def Obligations.LedSetBrightnessWritesLevel : Prop :=
  encode .ledSetBrightness = 0x20000000#32 ∧ Instr.ports .ledSetBrightness = [.p0] ∧
    (∀ x : Word, 0x7F800000#31 < x.setWidth 31 → level x = 0) ∧
    (∀ x : Word, x.getLsbD 31 = true → level x = 0) ∧
    (∀ x : Word, 0x3F800000#32 ≤ x → x ≤ 0x7F800000#32 → level x = 31) ∧
    (∀ x : Word, x ≤ 0x007FFFFF#32 → level x = 0) ∧
    level 0x3F7FFFFF = 30 ∧ level 0x3F000000 = 15 ∧
    ∀ s : State, s.accepts .ledSetBrightness = true →
      exec .ledSetBrightness s =
        .next ({ s with brightLevel := level s.regs.data0 }.withRegs { s.regs with result := .ok })

/-- R105: over the values from +0.0 to +inf the level never falls as the value rises, and it reaches k
exactly at fl32(k/31), the thresholds of 95_test_vectors.md section 2.2: rounding the product to binary32
before truncating, not an exact floor. That the operand is a binary32 pattern is the spec's general
knowledge (notes/assumptions/16.md). -/
def Obligations.LevelIsMonotone : Prop :=
  (∀ x y : Word, x ≤ y → y ≤ 0x7F800000#32 → level x ≤ level y) ∧
    ∀ (k : Fin 31) (x : Word), x ≤ 0x7F800000#32 →
      (k.val + 1 ≤ (level x).toNat ↔ levelThresholds[k] ≤ x)

/-- R100, R101, R103, R106, R107: every frame is 72 bytes: four zero bytes, then for each chain position the
brightness byte and Blue, Green, Red of the key it shows, then four bytes 0xFF. 0xFF and the marker 0xE0 are
the spec's own reading (notes/assumptions/16.md). -/
def Obligations.LedFrameLayout : Prop :=
  ∀ s : State,
    s.ledFrame.length = 72 ∧ s.ledFrame.take 4 = [0, 0, 0, 0] ∧
      s.ledFrame.drop 68 = [0xFF, 0xFF, 0xFF, 0xFF] ∧
      ∀ j : Fin 16, ∃ (blue green red : Byte),
        (s.ledFrame.drop (4 + 4 * j.val)).take 4 =
          [BitVec.ofNat 8 (0xE0 + s.brightLevel.toNat), blue, green, red] ∧
        red ++ green ++ blue =
          (if s.keys[s.cfg.chainMap[j]].pressed then s.keys[s.cfg.chainMap[j]].actColor
           else s.keys[s.cfg.chainMap[j]].defColor)

/-! ## Keypad scanner -/

/-- R113, the SCANs that read no keys: before INIT CLK nothing happens; a failed LED transaction is logged
as aborted and is Fatal(LED_BUS_FAIL); a failed keypad read leaves the frame logged and is
Fatal(KEYPAD_BUS_FAIL). In both fatal cases evt_count is 0 and the keys and RESP0 are unchanged. How BUSOK's
answers are held is the model's choice (notes/assumptions/3.md). -/
def Obligations.ScanStopsOnFailures : Prop :=
  ∀ s : State, s.accepts .scan = true →
    (s.clkEn = false → exec .scan s = .next (s.withRegs { s.regs with result := .errNotInit })) ∧
    (s.clkEn = true → s.busAnswer = false →
      exec .scan s =
        .next ({ s.busAsked with
          evtCount := 0
          ledLog := s.ledLog ++ [LedSend.aborted]
          fatal := true
          fatalCause := 0x02 }.withRegs { s.regs with result := .errFatal })) ∧
    (s.clkEn = true → s.busAnswer = true → s.busAsked.busAnswer = false →
      exec .scan s =
        .next ({ s.busAsked.busAsked with
          evtCount := 0
          ledLog := s.ledLog ++ [LedSend.complete s.ledFrame]
          fatal := true
          fatalCause := 0x01 }.withRegs { s.regs with result := .errFatal }))

/-- R113, R114, R115: a SCAN whose two transactions succeed logs the frame of the state before the read,
moves every key by the per-key state machine with one timestamp, lists the events in index order, and
returns their number. How BUSOK's answers are held is the model's choice (notes/assumptions/3.md). -/
def Obligations.ScanCompletes : Prop :=
  encode .scan = 0x10000000#32 ∧ Instr.ports .scan = [.p0] ∧
    ∀ s : State, s.accepts .scan = true → s.clkEn = true → s.busAnswer = true →
      s.busAsked.busAnswer = true →
      ∃ t : State, exec .scan s = .next t ∧
        t = { s.busAsked.busAsked with
          evtCount := t.evtCount
          evt := t.evt
          keys := t.keys
          ledLog := s.ledLog ++ [LedSend.complete s.ledFrame] }.withRegs
            { s.regs with resp0 := BitVec.ofNat 32 t.evtCount, result := .ok } ∧
        t.evtCount ≤ 16 ∧
        t.events = indices.filterMap (fun i => (s.keyEvent i).map (eventWord i)) ∧
        t.events.length = t.evtCount ∧
        ∀ i : Fin 16,
          t.keys[i] = { s.keys[i] with
            pressed := s.keyDown i
            held := if s.keyEvent i = some .held then true
              else if s.keyEvent i = none then s.keys[i].held else false
            lastPress := if s.keyEvent i = some .pressed then s.clk else s.keys[i].lastPress }

/-- R121: at the second of two completed scans, with no change of the pressed bits between them,
Pressed(i) is listed exactly when the bit went 0 to 1, Released(i) exactly when it went 1 to 0, a
steady released key has no event, and a steady pressed key has no event but Held. -/
def Obligations.EventsFollowTransitions : Prop :=
  ∀ (s t u v : State) (i : Fin 16),
    s.accepts .scan = true → exec .scan s = .next t → t.p0.result = .ok →
    u.accepts .scan = true → exec .scan u = .next v → v.p0.result = .ok →
    u.keys[i].pressed = t.keys[i].pressed →
    (eventWord i .pressed ∈ v.events ↔ s.keyDown i = false ∧ u.keyDown i = true) ∧
    (eventWord i .released ∈ v.events ↔ s.keyDown i = true ∧ u.keyDown i = false) ∧
    (s.keyDown i = false → u.keyDown i = false → ∀ k, eventWord i k ∉ v.events) ∧
    (s.keyDown i = true → u.keyDown i = true → ∀ k, eventWord i k ∈ v.events → k = .held)

/-- R122, R95: Held(i) is listed only for a key that is down now, was pressed at the last scan, and whose
press was recorded at least 750 ms of ticks ago; no fewer ticks would be 750 ms. That a tick is a whole number
of nanoseconds is the model's choice (notes/assumptions/24.md). -/
def Obligations.HeldNeedsTheThreshold : Prop :=
  ∀ (s t : State) (i : Fin 16), s.cfg.wf = true → s.accepts .scan = true → exec .scan s = .next t →
    t.p0.result = .ok → eventWord i .held ∈ t.events →
    s.keyDown i = true ∧ s.keys[i].pressed = true ∧ t.keys[i].held = true ∧
      750000000 ≤ (s.clk - s.keys[i].lastPress).toNat * s.cfg.tickNs ∧
      holdTicks s.cfg ≤ (s.clk - s.keys[i].lastPress).toNat ∧
      (holdTicks s.cfg - 1) * s.cfg.tickNs < 750000000

/-- R116: EVT_READ returns the slot's event word, or ERR_RANGE and 0 past the list. -/
def Obligations.EvtReadReturnsTheSlot : Prop :=
  (∀ j : Fin 16, encode (.evtRead j) = 0x11000000#32 ||| BitVec.ofNat 32 j.val) ∧
    (∀ j, Instr.ports (.evtRead j) = [.p0]) ∧
    ∀ (j : Fin 16) (s : State), s.accepts (.evtRead j) = true →
      (s.evtCount ≤ j.val →
        exec (.evtRead j) s = .next (s.withRegs { s.regs with resp0 := 0, result := .errRange })) ∧
      (j.val < s.evtCount →
        exec (.evtRead j) s = .next (s.withRegs { s.regs with resp0 := s.evt[j], result := .ok }))

/-- R117: KEY_READ returns the key's flags and its timestamp. -/
def Obligations.KeyReadReturnsTheKey : Prop :=
  (∀ i : Fin 16, encode (.keyRead i) = 0x12000000#32 ||| BitVec.ofNat 32 i.val) ∧
    (∀ i, Instr.ports (.keyRead i) = [.p0]) ∧
    ∀ (i : Fin 16) (s : State), s.accepts (.keyRead i) = true →
      ∃ lo hi : Word, hi ++ lo = s.keys[i].lastPress ∧
        exec (.keyRead i) s =
          .next (s.withRegs { s.regs with
            resp0 := BitVec.ofNat 32 (s.keys[i].pressed.toNat + 2 * s.keys[i].held.toNat)
            resp1 := lo
            resp2 := hi
            result := .ok })

/-- R118: KEY_COLOR_READ returns the key's two colours. -/
def Obligations.KeyColorReadReturnsColors : Prop :=
  (∀ i : Fin 16, encode (.keyColorRead i) = 0x13000000#32 ||| BitVec.ofNat 32 i.val) ∧
    (∀ i, Instr.ports (.keyColorRead i) = [.p0]) ∧
    ∀ (i : Fin 16) (s : State), s.accepts (.keyColorRead i) = true →
      exec (.keyColorRead i) s =
        .next (s.withRegs { s.regs with
          resp0 := (0 : BitVec 8) ++ s.keys[i].defColor
          resp1 := (0 : BitVec 8) ++ s.keys[i].actColor
          result := .ok })

/-- R119: KEY_SET_COLOR writes one colour of one key from DATA0[23:0]; every other key and every other
field is unchanged. -/
def Obligations.KeySetColorWritesOneColor : Prop :=
  (∀ i : Fin 16, encode (.keySetColor .defColor i) = 0x14000000#32 ||| BitVec.ofNat 32 i.val) ∧
    (∀ i : Fin 16, encode (.keySetColor .actColor i) = 0x14000010#32 ||| BitVec.ofNat 32 i.val) ∧
    (∀ sel i, Instr.ports (.keySetColor sel i) = [.p0]) ∧
    ∀ (i : Fin 16) (s : State), (∀ sel, s.accepts (.keySetColor sel i) = true) →
      ∃ c : Color, c.toNat = s.p0.data0.toNat % 2 ^ 24 ∧
        exec (.keySetColor .defColor i) s =
          .next ({ s with keys := s.keys.set i.val { s.keys[i] with defColor := c } }.withRegs
            { s.regs with result := .ok }) ∧
        exec (.keySetColor .actColor i) s =
          .next ({ s with keys := s.keys.set i.val { s.keys[i] with actColor := c } }.withRegs
            { s.regs with result := .ok })

/-- R120: KEY_BCAST_COLOR writes one colour of all 16 keys from DATA0[23:0]. -/
def Obligations.KeyBcastColorWritesAllKeys : Prop :=
  encode (.keyBcastColor .defColor) = 0x14000020#32 ∧
    encode (.keyBcastColor .actColor) = 0x14000030#32 ∧
    (∀ sel, Instr.ports (.keyBcastColor sel) = [.p0]) ∧
    ∀ s : State, (∀ sel, s.accepts (.keyBcastColor sel) = true) →
      ∃ (c : Color) (defs acts : Vector Key 16), c.toNat = s.p0.data0.toNat % 2 ^ 24 ∧
        exec (.keyBcastColor .defColor) s =
          .next ({ s with keys := defs }.withRegs { s.regs with result := .ok }) ∧
        exec (.keyBcastColor .actColor) s =
          .next ({ s with keys := acts }.withRegs { s.regs with result := .ok }) ∧
        ∀ i : Fin 16, defs[i] = { s.keys[i] with defColor := c } ∧
          acts[i] = { s.keys[i] with actColor := c }

/-- R32: only SCAN, KEY_SET_COLOR and KEY_BCAST_COLOR, issued on P0, write the key array; only RESET
does so besides. -/
def Obligations.KeysAreWrittenByTheScannerOnly : Prop :=
  ∀ s s' : State, step s = .next s' → s'.keys ≠ s.keys →
    s.nextAct = some .reset ∨ s.issues = some (.p0, .scan) ∨
      (∃ sel i, s.issues = some (.p0, .keySetColor sel i)) ∨
      ∃ sel, s.issues = some (.p0, .keyBcastColor sel)

/-! ## Queue -/

/-- R132: Q_PUSH stores the issuing port's BUF, or drops it silently when the producers see 16 entries. -/
def Obligations.QPushStoresOrDrops : Prop :=
  encode .qPush = 0x40000000#32 ∧ Instr.ports .qPush = [.p0, .p1] ∧
    ∀ s : State, s.accepts .qPush = true →
      (s.qEn = false →
        exec .qPush s = .next (s.withRegs { s.regs with result := .errNotInit })) ∧
      (s.qEn = true → (s.wptr - s.rsync).toNat = 16 →
        exec .qPush s = .next (s.withRegs { s.regs with result := .ok })) ∧
      (s.qEn = true → (s.wptr - s.rsync).toNat ≠ 16 →
        exec .qPush s =
          .next ({ s with
            qMem := s.qMem.set (s.wptr.toNat % 16) s.regs.buf (Nat.mod_lt _ (by decide))
            wptr := s.wptr + 1 }.withRegs { s.regs with result := .ok }))

/-- R133: Q_POP moves the oldest visible entry into P2's BUF, or is a no-op with EMPTY. -/
def Obligations.QPopReturnsTheOldest : Prop :=
  encode .qPop = 0x41000000#32 ∧ Instr.ports .qPop = [.p2] ∧
    ∀ s : State, s.accepts .qPop = true →
      (s.rptr = s.wsync →
        exec .qPop s = .next (s.withRegs { s.regs with resp0 := 0, result := .empty })) ∧
      (s.rptr ≠ s.wsync →
        exec .qPop s =
          .next ({ s with rptr := s.rptr + 1 }.withRegs { s.regs with
            buf := s.qMem[s.rptr.toNat % 16]'(Nat.mod_lt _ (by decide))
            resp0 := 1
            result := .ok }))

/-- R135: Q_LEVEL returns the producer view on P0 and P1 and the consumer view on P2. -/
def Obligations.QLevelReturnsTheView : Prop :=
  encode .qLevel = 0x42000000#32 ∧ (∀ p, p ∈ Instr.ports .qLevel) ∧
    ∀ s : State, s.accepts .qLevel = true →
      (s.qEn = false →
        exec .qLevel s = .next (s.withRegs { s.regs with result := .errNotInit })) ∧
      (s.qEn = true → s.issuing ≠ .p2 →
        exec .qLevel s =
          .next (s.withRegs { s.regs with
            resp0 := BitVec.ofNat 32 (s.wptr - s.rsync).toNat, result := .ok })) ∧
      (s.qEn = true → s.issuing = .p2 →
        exec .qLevel s =
          .next (s.withRegs { s.regs with
            resp0 := BitVec.ofNat 32 (s.wsync - s.rptr).toNat, result := .ok }))

/-- R130: wptr is written only by Q_PUSH on P0 or P1, rptr only by Q_POP on P2, and each moves by one. -/
def Obligations.PointersHaveOneWriter : Prop :=
  ∀ s s' : State, step s = .next s' → s.nextAct ≠ some .reset →
    (s'.wptr ≠ s.wptr → s'.wptr = s.wptr + 1 ∧
      (s.issues = some (.p0, .qPush) ∨ s.issues = some (.p1, .qPush))) ∧
    (s'.rptr ≠ s.rptr → s'.rptr = s.rptr + 1 ∧ s.issues = some (.p2, .qPop))

/-- R136: every step keeps the invariants of the queue pointers. -/
def Obligations.EveryStepKeepsTheQueueInvariant : Prop :=
  ∀ s s' : State, QueueInv s → step s = .next s' → QueueInv s'

/-- R144, R137. A step without a RESET, from a state that meets the queue's invariant: what Q_POP returned,
followed by what is still queued, is what was queued, followed by what Q_PUSH stored. So over any such run
the entries returned, followed by those still queued, are the entries queued at the start, followed by the
entries stored, in push order; from an empty queue the returned sequence is a prefix of the stored one. No
entry is torn, lost or repeated. -/
def Obligations.QueueIsFirstInFirstOut : Prop :=
  (∀ s s' : State, QueueInv s → step s = .next s' → s.nextAct ≠ some .reset →
    returnedEntries s s' ++ s'.contents = s.contents ++ storedEntries s s') ∧
  ∀ (r : Nat → State) (n : Nat), QueueInv (r 0) → RunsFor r n → NoReset r n →
    returnedUpTo r n ++ (r n).contents = (r 0).contents ++ storedUpTo r n ∧
      (r n).contents.length ≤ 16 ∧
      ((r 0).contents = [] → returnedUpTo r n <+: storedUpTo r n)

/-! ## USB -/

/-- R153, R151: USB_PUSH_KBD queues the 8-byte report of DATA0 and DATA1, or answers ERR_NOT_INIT,
ERR_USB_STATE or WOULDBLOCK and leaves the USB unit as it was (R161). -/
def Obligations.UsbPushQueuesOneReport : Prop :=
  encode .usbPushKbd = 0x50000000#32 ∧ Instr.ports .usbPushKbd = [.p0] ∧
    ∀ s : State, s.accepts .usbPushKbd = true →
      (s.usbEn = false →
        exec .usbPushKbd s = .next (s.withRegs { s.regs with result := .errNotInit })) ∧
      (s.usbEn = true → s.configured = false →
        exec .usbPushKbd s = .next (s.withRegs { s.regs with resp0 := 0, result := .errUsbState })) ∧
      (s.usbEn = true → s.configured = true → s.kbd.inFull = true →
        exec .usbPushKbd s = .next (s.withRegs { s.regs with resp0 := 0, result := .wouldBlock })) ∧
      (s.usbEn = true → s.configured = true → s.kbd.inFull = false →
        ∃ b : Vector Byte 8,
          b[3] ++ b[2] ++ b[1] ++ b[0] = s.p0.data0 ∧ b[7] ++ b[6] ++ b[5] ++ b[4] = s.p0.data1 ∧
          exec .usbPushKbd s =
            .next ({ s with kbd := { s.kbd with inFull := true, inBuf := b.toList } }.withRegs
              { s.regs with resp0 := 8, result := .ok }))

/-- R154: USB_POLL completes a waiting configuration, drains every pending OUT report, acknowledges the
interrupt and reports what it did: bit h of RESP0 for instance h, bit 8 for the configuration. -/
def Obligations.UsbPollServicesTheController : Prop :=
  encode .usbPoll = 0x51000000#32 ∧ Instr.ports .usbPoll = [.p1] ∧
    ∀ s : State, s.accepts .usbPoll = true →
      (s.usbEn = false →
        exec .usbPoll s = .next (s.withRegs { s.regs with result := .errNotInit })) ∧
      (s.usbEn = true → s.hid.length ≤ 3 →
        ∃ d : Word,
          (∀ h : Nat, d.getLsbD h =
            if h = 8 then s.ctrlPending else (s.hid[h]?).any (fun x => x.outPending)) ∧
          exec .usbPoll s =
            .next ({ s with
              configured := if s.ctrlPending then true else s.configured
              ctrlPending := false
              kbd := { s.kbd with outPending := false }
              moreHid := s.moreHid.map (fun x : HidInstance => { x with outPending := false })
              evPending := false }.withRegs { s.regs with resp0 := d, result := .ok }))

/-- R160: USB_STATE_READ shows the controller's flags and changes nothing else. -/
def Obligations.UsbStateReadShowsTheFlags : Prop :=
  encode .usbStateRead = 0x52000000#32 ∧ (∀ p, p ∈ Instr.ports .usbStateRead) ∧
    ∀ s : State, s.accepts .usbStateRead = true →
      (s.usbEn = false →
        exec .usbStateRead s = .next (s.withRegs { s.regs with result := .errNotInit })) ∧
      (s.usbEn = true → s.hid.length ≤ 3 →
        ∃ v : Word,
          (∀ n : Nat, v.getLsbD n =
            if n = 0 then s.configured
            else if n = 1 then s.ctrlPending
            else if n = 2 then s.evPending
            else if 8 ≤ n ∧ n < 11 then (s.hid[n - 8]?).any (fun x => x.inFull)
            else if 16 ≤ n ∧ n < 19 then (s.hid[n - 16]?).any (fun x => x.outPending)
            else false) ∧
          exec .usbStateRead s = .next (s.withRegs { s.regs with resp0 := v, result := .ok }))

/-- R164, R161: a step without a HOST RESET or a RESET leaves the sequence of reports (those the host has
taken, then the outstanding one) as it was, or is a successful USB_PUSH_KBD that appends its report:
no report is lost, repeated, reordered or altered. -/
def Obligations.ReportsReachTheHostInOrder : Prop :=
  ∀ s s' : State, step s = .next s' → s.nextAct ≠ some .hostReset → s.nextAct ≠ some .reset →
    s'.reports = s.reports ∨
      (s.issues = some (.p0, .usbPushKbd) ∧ s'.p0.result = .ok ∧
        s'.reports = s.reports ++ [bytesOfWord s.p0.data0 ++ bytesOfWord s.p0.data1])

/-- R155 to R158: the steps of the USB host, each enabled exactly as its rule says and with its effect. That
a step which is not enabled is refused by name is the model's choice (notes/assumptions/11.md). That the
host waits with SEND_OUT while an OUT report is pending is the spec's general knowledge
(notes/assumptions/16.md). -/
def Obligations.HostStepsFollowTheirRules : Prop :=
  ∀ s : State,
    (s.usbEn = true → s.configured = false → s.ctrlPending = false →
      s.perform .hostConfigure = .next { s with ctrlPending := true, evPending := true }) ∧
    ((s.usbEn = false ∨ s.configured = true ∨ s.ctrlPending = true) →
      s.perform .hostConfigure = .refused .notEnabled) ∧
    (s.usbEn = true → s.perform .hostReset = .next { s with
      configured := false
      ctrlPending := false
      evPending := true
      kbd := { inFull := false, inBuf := List.replicate s.kbd.inBuf.length 0, outPending := false }
      moreHid := s.moreHid.map (fun x =>
        { inFull := false, inBuf := List.replicate x.inBuf.length 0, outPending := false }) }) ∧
    (s.usbEn = false → s.perform .hostReset = .refused .notEnabled) ∧
    (∀ (h : Nat) (x : HidInstance), s.usbEn = true → s.configured = true → s.hid[h]? = some x → x.inFull = true →
      ∃ t, s.perform (.hostTake h) = .next t ∧ t.hostLog = s.hostLog ++ [(h, x.inBuf)] ∧
        t.hid = s.hid.set h { x with inFull := false } ∧ t.evPending = true ∧
        t = { s with hostLog := t.hostLog, kbd := t.kbd, moreHid := t.moreHid, evPending := true }) ∧
    (∀ h, (∀ x, s.hid[h]? = some x → x.inFull = false) →
      s.perform (.hostTake h) = .refused .notEnabled) ∧
    (∀ (h : Nat) (x : HidInstance), s.usbEn = true → s.configured = true → s.hid[h]? = some x → x.outPending = false →
      ∃ t, s.perform (.hostOut h) = .next t ∧
        t.hid = s.hid.set h { x with outPending := true } ∧ t.evPending = true ∧
        t = { s with kbd := t.kbd, moreHid := t.moreHid, evPending := true }) ∧
    (∀ h, (∀ x, s.hid[h]? = some x → x.outPending = true) →
      s.perform (.hostOut h) = .refused .notEnabled) ∧
    ∀ h, (s.usbEn = false ∨ s.configured = false) →
      s.perform (.hostTake h) = .refused .notEnabled ∧ s.perform (.hostOut h) = .refused .notEnabled

/-- R159: ev_pending, once set, is cleared only by a USB_POLL on P1 and by RESET. -/
def Obligations.EventIsClearedOnlyByPoll : Prop :=
  ∀ s s' : State, step s = .next s' → s.evPending = true → s'.evPending = false →
    s.nextAct = some .reset ∨ s.issues = some (.p1, .usbPoll)

/-! ## The software contexts -/

/-- R187, R7: P1 enters exactly when irq = 1 and it is Idle, leaves only its handler, issues only inside it,
and P0 has no step meanwhile. That a context's step is checked against its role is the model's choice
(notes/assumptions/10.md), and that P1 may return before it has polled is read from R187
(notes/assumptions/13.md). That a step which is not enabled is refused by name is the model's choice
(notes/assumptions/11.md). -/
def Obligations.HandlerEntersOnTheLine : Prop :=
  ∀ s : State,
    (s.evPending = true → s.usbIrqEn = true → s.handler = .idle →
      s.perform .enter = .next { s with handler := .inIsr false false }) ∧
    ((s.evPending = false ∨ s.usbIrqEn = false ∨ s.handler ≠ .idle) →
      s.perform .enter = .refused .notEnabled) ∧
    (s.handler ≠ .idle → s.perform .leave = .next { s with handler := .idle }) ∧
    (s.handler = .idle → s.perform .leave = .refused .notEnabled) ∧
    (s.handler ≠ .idle → ∀ x, s.perform (.context .p0 x) = .refused .notEnabled) ∧
    (s.handler = .idle → ∀ x, s.perform (.context .p1 x) = .refused .notEnabled)

/-- R141, R142: a successful Q_POP of the idle P2 starts the drawing of the entry it returned, and the
drawing of an entry that P2 must not render ends only once P2 has requested the fatal path. The step that
ends a drawing is read from R141 (notes/assumptions/10.md and 14.md). -/
def Obligations.RendererDrawsWhatItPops : Prop :=
  (∀ s : State, s.cfg.wf = true → s.renderer = .idle → s.fatal = false → s.clkEn = true →
    s.qEn = true → s.rptr ≠ s.wsync →
    ∃ t, s.perform (.context .p2 (writeAccess s.cfg .p2 .cmd 0x41000000)) = .next t ∧
      t.renderer = .drawing (s.qMem[s.rptr.toNat % 16]'(Nat.mod_lt _ (by decide))) false ∧
      t.p2.buf = s.qMem[s.rptr.toNat % 16]'(Nat.mod_lt _ (by decide)) ∧ t.p2.result = .ok) ∧
  ∀ (s t : State) (e : Entry) (requested : Bool), s.renderer = .drawing e requested →
    s.perform .renderDone = .next t →
    requested = true ∨ e[0].toNat = 0 ∨ e[0].toNat = 1 ∨ (e[0].toNat = 2 ∧ e[1].toNat ≤ 64)

/-- R193, R171: what an operation issued by the renderer can change: its own port, the read pointer, the
fatal state, and the places of the oracles. All else the block holds is the same. The oracles' places are
the model's own fields (notes/assumptions/3.md and 4.md). -/
def Obligations.RendererReachesOnlyTheQueue : Prop :=
  ∀ (i : Instr) (s t : State), s.issuing = .p2 → exec i s = .next t →
    t = { s with
      p2 := t.p2
      rptr := t.rptr
      fatal := t.fatal
      fatalCause := t.fatalCause
      busAnswers := t.busAnswers
      jitterAnswers := t.jitterAnswers
      drawn := t.drawn }

/-- R139, R140: the entry a producer stages has TAG in byte 0, LEN in byte 1, LAYER_ID in byte 2, 0 in byte
3, the payload from byte 4, and a Home's colour in bytes 20 to 22 with byte 23 = 0; an entry staged for a
display command within the layout's limits is read back as that command; and the consumer renders Clear,
Splash and Panic only. The zeros in the bytes without meaning are the model's choice
(notes/assumptions/17.md). -/
def Obligations.EntryLayoutRoundTrip : Prop :=
  (commandOfEntry DisplayCommand.clear.entry = some .clear ∧
    commandOfEntry DisplayCommand.splash.entry = some .splash ∧
    commandOfEntry DisplayCommand.selector.entry = some .selector ∧
    commandOfEntry DisplayCommand.settings.entry = some .settings ∧
    DisplayCommand.clear.entry.toList.take 4 = [0, 0, 0, 0] ∧
    DisplayCommand.splash.entry.toList.take 4 = [1, 0, 0, 0] ∧
    DisplayCommand.selector.entry.toList.take 4 = [4, 0, 0, 0] ∧
    DisplayCommand.settings.entry.toList.take 4 = [5, 0, 0, 0]) ∧
  (∀ m : List Byte, m.length ≤ 64 →
    (DisplayCommand.panic m).entry.toList.take 4 = [2, BitVec.ofNat 8 m.length, 0, 0] ∧
      ((DisplayCommand.panic m).entry.toList.drop 4).take m.length = m ∧
      commandOfEntry (DisplayCommand.panic m).entry = some (.panic m) ∧
      consumerAction (DisplayCommand.panic m).entry = .render) ∧
  (∀ (id : Byte) (name : List Byte) (c : Color), name.length ≤ 16 →
    (DisplayCommand.home id name c).entry.toList.take 4 = [3, BitVec.ofNat 8 name.length, id, 0] ∧
      ((DisplayCommand.home id name c).entry.toList.drop 4).take name.length = name ∧
      (DisplayCommand.home id name c).entry[22] ++ (DisplayCommand.home id name c).entry[21] ++
        (DisplayCommand.home id name c).entry[20] = c ∧
      (DisplayCommand.home id name c).entry[23] = 0 ∧
      commandOfEntry (DisplayCommand.home id name c).entry = some (.home id name c) ∧
      consumerAction (DisplayCommand.home id name c).entry = .requestFatal) ∧
  ∀ e : Entry, consumerAction e = .render ↔
    commandOfEntry e = some .clear ∨ commandOfEntry e = some .splash ∨
      ∃ m, commandOfEntry e = some (.panic m)

/-! ## The register window -/

/-- R51, R52: the window of port p is the 256 bytes at BLOCK_BASE + 0x100 p, and no other address belongs
to HDK. -/
def Obligations.WindowIsTheAddressMap : Prop :=
  ∀ (c : Params) (a : Nat) (p : Port) (off : Nat),
    windowPlace c a = some (p, off) ↔ off < 0x100 ∧ a = c.blockBase + 0x100 * p.index + off

/-- R53, R54, R57: a word written to DATA0, DATA1 or a BUF word of a port reads back, every other
register of every port reads as before, and a write to any other register but CMD changes nothing. -/
def Obligations.OperandWordsReadBack : Prop :=
  ∀ (s : State) (p q : Port) (r r' : Reg) (v : Word),
    ((r = .data0 ∨ r = .data1 ∨ ∃ k, r = .buf k) → (s.writeReg p r v).readReg p r = v) ∧
    ((q, r') ≠ (p, r) → (s.writeReg p r v).readReg q r' = s.readReg q r') ∧
    (¬(r = .data0 ∨ r = .data1 ∨ ∃ k, r = .buf k) → s.writeReg p r v = s)

/-- R53, R54, R56, R62: the register map by offset, with what a read of each offset returns in every state;
an admitted read delivers the register its address names and changes nothing else but the reader's data; an
admitted write of a register other than CMD is that register's write. The place of the delivered word is the
model's own field (notes/assumptions/9.md). -/
def Obligations.AccessesReachTheirRegister : Prop :=
  (regAt 0x00 = .cmd ∧ regAt 0x04 = .data0 ∧ regAt 0x08 = .data1 ∧ regAt 0x0C = .resp0 ∧
    regAt 0x10 = .resp1 ∧ regAt 0x14 = .resp2 ∧ regAt 0x18 = .status ∧
    (∀ k : Fin 17, regAt (0x40 + 4 * k.val) = .buf k) ∧
    ∀ off, 0x1C ≤ off ∧ off ≤ 0x3C ∨ 0x84 ≤ off ∧ off ≤ 0xFC → regAt off = .reserved) ∧
  (∀ (s : State) (p : Port),
    s.readReg p .cmd = 0 ∧ s.readReg p .reserved = 0 ∧ s.readReg p .data0 = (s.port p).data0 ∧
      s.readReg p .data1 = (s.port p).data1 ∧ s.readReg p .resp0 = (s.port p).resp0 ∧
      s.readReg p .resp1 = (s.port p).resp1 ∧ s.readReg p .resp2 = (s.port p).resp2 ∧
      ∀ k : Fin 17, s.readReg p (.buf k) =
        (s.port p).buf[4 * k.val + 3] ++ (s.port p).buf[4 * k.val + 2] ++
          (s.port p).buf[4 * k.val + 1] ++ (s.port p).buf[4 * k.val]) ∧
  ∀ (s : State) (p : Port) (off : Nat) (v : Word) (rest : List Act), s.cfg.wf = true → off < 0x100 →
    off % 4 = 0 →
    (s.agenda = .bus (.read 4 (s.cfg.blockBase + 0x100 * p.index + off)) :: rest →
      step s = .next { s with agenda := rest, rdata := s.readReg p (regAt off) }) ∧
    (s.agenda = .bus (.write 4 (s.cfg.blockBase + 0x100 * p.index + off) v) :: rest → off ≠ 0 →
      step s = .next ({ s with agenda := rest }.writeReg p (regAt off) v))

/-- R55, R51: an access of another width than 32 bits, or at an address that is not a multiple of 4, has no
step, and an access outside the window is not HDK's. The names of the two stops are the model's
(notes/assumptions/12.md). -/
def Obligations.OtherAccessesHaveNoStep : Prop :=
  ∀ (s : State) (x : Access),
    ((x.width ≠ 4 ∨ x.addr % 4 ≠ 0) → s.cfg.blockBase ≤ x.addr → x.addr < s.cfg.blockBase + 768 →
      s.perform (.bus x) = .refused .badAccess) ∧
    ((x.addr < s.cfg.blockBase ∨ s.cfg.blockBase + 768 ≤ x.addr) →
      s.perform (.bus x) = .fault .outsideWindow)

/-- R24: a read of STATUS shows RESULT in bits 7:0, FATAL in bit 8, the interrupt line in bit 9, and 0
above. -/
def Obligations.StatusShowsResultFatalAndLine : Prop :=
  ∀ (s : State) (p : Port),
    (s.readReg p .status).extractLsb' 0 8 = (s.port p).result.code ∧
      (s.readReg p .status).getLsbD 8 = s.fatal ∧
      (s.readReg p .status).getLsbD 9 = (s.evPending && s.usbIrqEn) ∧
      (s.readReg p .status).toNat < 1024

/-! ## Frames and whole-machine rules -/

/-- R20, R205: an operation issued on one port never changes another port's registers. -/
def Obligations.OtherPortsAreUntouched : Prop :=
  ∀ (i : Instr) (s t : State) (q : Port), exec i s = .next t → q ≠ s.issuing → t.port q = s.port q

/-- R23, R25, R80: an operation never changes DATA0 or DATA1, and of RESP0, RESP1, RESP2 and BUF only
what its row of R80 names; every other register of the window reads as before, but STATUS. -/
def Obligations.OnlyNamedRegistersChange : Prop :=
  ∀ (i : Instr) (s t : State) (r : Reg), exec i s = .next t → r ≠ .status → r ∉ Instr.answers i →
    t.readReg s.issuing r = s.readReg s.issuing r

/-- R182: an operation that passes the front end ends with one of the results of its row. -/
def Obligations.ResultsAreThoseOfTheTable : Prop :=
  ∀ (i : Instr) (s : State), s.accepts i = true →
    ∃ t, exec i s = .next t ∧ t.regs.result ∈ Instr.results i

/-- R180, R196: an operation that ends with a recoverable error changed RESULT, and RESP0 where the rule
writes 0 there, and nothing else. -/
def Obligations.RecoverableErrorsChangeNothing : Prop :=
  ∀ (i : Instr) (s t : State), exec i s = .next t → t.regs.result.recoverable = true →
    t = s.withRegs { s.regs with result := t.regs.result } ∨
      t = s.withRegs { s.regs with resp0 := 0, result := t.regs.result }

/-- R190, R183: nothing but RESET leaves the fatal state, and the first cause is kept. -/
def Obligations.FatalIsLeftOnlyByReset : Prop :=
  ∀ s s' : State, step s = .next s' → s.fatal = true → s.nextAct ≠ some .reset →
    s'.fatal = true ∧ s'.fatalCause = s.fatalCause

/-- R200, R40, R202: a RESET step gives every piece of block state its reset value (q_mem is left open),
leaves P1 and P2 idle, and keeps the keypad lines, the logs and the parameters. What a RESET does to the
model's own fields is its choice (notes/assumptions/19.md). -/
def Obligations.ResetStepRestoresResetValues : Prop :=
  ∀ (s : State) (rest : List Act), s.agenda = .reset :: rest →
    ∃ t, step s = .next t ∧
      t = { State.reset with
        cfg := s.cfg
        moreHid := s.cfg.moreInLen.map (fun n =>
          { inFull := false, inBuf := List.replicate n 0, outPending := false })
        qMem := t.qMem
        kpLines := s.kpLines
        ledLog := s.ledLog
        hostLog := s.hostLog
        issuing := t.issuing
        agenda := rest
        busAnswers := s.busAnswers
        jitterAnswers := s.jitterAnswers
        drawn := t.drawn
        rdata := t.rdata }

/-- R40, whole: the reset value of every piece of block state but q_mem, which R40 leaves unspecified.
State.reset has the parameters of notes/assumptions/5.md. -/
def Obligations.ResetGivesEveryFieldItsValue : Prop :=
  (∀ p r, r ≠ .status → State.reset.readReg p r = 0) ∧ (∀ p, (State.reset.port p).result = .ok) ∧
    (State.reset.clkEn || State.reset.rngEn || State.reset.qEn || State.reset.usbEn ||
      State.reset.usbIrqEn || State.reset.fatal) = false ∧
    State.reset.fatalCause = 0 ∧ State.reset.clk = 0 ∧
    (∀ i : Fin 16, State.reset.keys[i] = ⟨false, false, 0, 0, 0⟩) ∧ State.reset.brightLevel = 0 ∧
    State.reset.evtCount = 0 ∧ (∀ j : Fin 16, State.reset.evt[j] = 0) ∧
    State.reset.wptr = 0 ∧ State.reset.rptr = 0 ∧ State.reset.wsync = 0 ∧ State.reset.rsync = 0 ∧
    (State.reset.configured || State.reset.ctrlPending || State.reset.evPending) = false ∧
    ∀ h ∈ State.reset.hid, h.inFull = false ∧ h.outPending = false ∧ ∀ b ∈ h.inBuf, b = 0

/-- R136, R40: the invariants the next statements keep hold right after reset, and the queue is empty. -/
def Obligations.InvariantsHoldAtReset : Prop :=
  State.reset.Inv ∧ QueueInv State.reset ∧ State.reset.contents = []

/-- R29, R34, R150, R163, R174, R181: every step keeps the block's invariant: the parameters stay well
formed, the USB flags stay consistent with the enable bits and the configuration, the instances keep
their buffers, a held key is a pressed key, evt_count stays in 0..16, and the fatal cause is 0 while not
fatal and one that can be raised while fatal. -/
def Obligations.EveryStepKeepsTheInvariant : Prop :=
  ∀ s s' : State, s.Inv → step s = .next s' → s'.Inv

/-- R90, R110, R134: TICK, SYNC W, SYNC R and KEYPAD change one field each; TICK is enabled only while
clk_en = 1, and then adds 1 modulo 2^64, in the fatal state too. The agenda is the model's own field
(notes/assumptions/1.md), and that a step which is not enabled is refused by name is the model's choice
(notes/assumptions/11.md). That SYNC copies a pointer whole is the spec's general knowledge
(notes/assumptions/16.md). -/
def Obligations.EnvironmentStepsChangeOneField : Prop :=
  ∀ (s : State) (rest : List Act) (lines : BitVec 16),
    (s.agenda = .tick :: rest → s.clkEn = true →
      step s = .next { s with agenda := rest, clk := s.clk + 1 }) ∧
    (s.agenda = .tick :: rest → s.clkEn = false → step s = .refused .notEnabled) ∧
    (s.agenda = .syncW :: rest → step s = .next { s with agenda := rest, wsync := s.wptr }) ∧
    (s.agenda = .syncR :: rest → step s = .next { s with agenda := rest, rsync := s.rptr }) ∧
    (s.agenda = .keypad lines :: rest → step s = .next { s with agenda := rest, kpLines := lines })
end

