-- ==== Sys2Proof/Laws/State.lean ====
section
/-!
SUPPORT. The fields of State under the shared updates: one lemma per field per update, each read off
the update's definition, so that no later proof unfolds a record update.
-/

namespace Sys2Proof.Machine

variable (s : State)

/-! Fields under State.setPort. -/

@[simp] theorem State.setPort_cfg (p : Port) (r : PortRegs) : (s.setPort p r).cfg = s.cfg := rfl
@[simp] theorem State.setPort_clkEn (p : Port) (r : PortRegs) : (s.setPort p r).clkEn = s.clkEn := rfl
@[simp] theorem State.setPort_rngEn (p : Port) (r : PortRegs) : (s.setPort p r).rngEn = s.rngEn := rfl
@[simp] theorem State.setPort_qEn (p : Port) (r : PortRegs) : (s.setPort p r).qEn = s.qEn := rfl
@[simp] theorem State.setPort_usbEn (p : Port) (r : PortRegs) : (s.setPort p r).usbEn = s.usbEn := rfl
@[simp] theorem State.setPort_usbIrqEn (p : Port) (r : PortRegs) : (s.setPort p r).usbIrqEn = s.usbIrqEn := rfl
@[simp] theorem State.setPort_fatal (p : Port) (r : PortRegs) : (s.setPort p r).fatal = s.fatal := rfl
@[simp] theorem State.setPort_fatalCause (p : Port) (r : PortRegs) : (s.setPort p r).fatalCause = s.fatalCause := rfl
@[simp] theorem State.setPort_clk (p : Port) (r : PortRegs) : (s.setPort p r).clk = s.clk := rfl
@[simp] theorem State.setPort_keys (p : Port) (r : PortRegs) : (s.setPort p r).keys = s.keys := rfl
@[simp] theorem State.setPort_brightLevel (p : Port) (r : PortRegs) : (s.setPort p r).brightLevel = s.brightLevel := rfl
@[simp] theorem State.setPort_evtCount (p : Port) (r : PortRegs) : (s.setPort p r).evtCount = s.evtCount := rfl
@[simp] theorem State.setPort_evt (p : Port) (r : PortRegs) : (s.setPort p r).evt = s.evt := rfl
@[simp] theorem State.setPort_qMem (p : Port) (r : PortRegs) : (s.setPort p r).qMem = s.qMem := rfl
@[simp] theorem State.setPort_wptr (p : Port) (r : PortRegs) : (s.setPort p r).wptr = s.wptr := rfl
@[simp] theorem State.setPort_rptr (p : Port) (r : PortRegs) : (s.setPort p r).rptr = s.rptr := rfl
@[simp] theorem State.setPort_wsync (p : Port) (r : PortRegs) : (s.setPort p r).wsync = s.wsync := rfl
@[simp] theorem State.setPort_rsync (p : Port) (r : PortRegs) : (s.setPort p r).rsync = s.rsync := rfl
@[simp] theorem State.setPort_configured (p : Port) (r : PortRegs) : (s.setPort p r).configured = s.configured := rfl
@[simp] theorem State.setPort_ctrlPending (p : Port) (r : PortRegs) : (s.setPort p r).ctrlPending = s.ctrlPending := rfl
@[simp] theorem State.setPort_evPending (p : Port) (r : PortRegs) : (s.setPort p r).evPending = s.evPending := rfl
@[simp] theorem State.setPort_kbd (p : Port) (r : PortRegs) : (s.setPort p r).kbd = s.kbd := rfl
@[simp] theorem State.setPort_moreHid (p : Port) (r : PortRegs) : (s.setPort p r).moreHid = s.moreHid := rfl
@[simp] theorem State.setPort_handler (p : Port) (r : PortRegs) : (s.setPort p r).handler = s.handler := rfl
@[simp] theorem State.setPort_renderer (p : Port) (r : PortRegs) : (s.setPort p r).renderer = s.renderer := rfl
@[simp] theorem State.setPort_kpLines (p : Port) (r : PortRegs) : (s.setPort p r).kpLines = s.kpLines := rfl
@[simp] theorem State.setPort_ledLog (p : Port) (r : PortRegs) : (s.setPort p r).ledLog = s.ledLog := rfl
@[simp] theorem State.setPort_hostLog (p : Port) (r : PortRegs) : (s.setPort p r).hostLog = s.hostLog := rfl
@[simp] theorem State.setPort_issuing (p : Port) (r : PortRegs) : (s.setPort p r).issuing = s.issuing := rfl
@[simp] theorem State.setPort_agenda (p : Port) (r : PortRegs) : (s.setPort p r).agenda = s.agenda := rfl
@[simp] theorem State.setPort_busAnswers (p : Port) (r : PortRegs) : (s.setPort p r).busAnswers = s.busAnswers := rfl
@[simp] theorem State.setPort_jitterAnswers (p : Port) (r : PortRegs) : (s.setPort p r).jitterAnswers = s.jitterAnswers := rfl
@[simp] theorem State.setPort_drawn (p : Port) (r : PortRegs) : (s.setPort p r).drawn = s.drawn := rfl
@[simp] theorem State.setPort_rdata (p : Port) (r : PortRegs) : (s.setPort p r).rdata = s.rdata := rfl

/-! Fields under State.setResult. -/

@[simp] theorem State.setResult_cfg (c : Result) : (s.setResult c).cfg = s.cfg := rfl
@[simp] theorem State.setResult_clkEn (c : Result) : (s.setResult c).clkEn = s.clkEn := rfl
@[simp] theorem State.setResult_rngEn (c : Result) : (s.setResult c).rngEn = s.rngEn := rfl
@[simp] theorem State.setResult_qEn (c : Result) : (s.setResult c).qEn = s.qEn := rfl
@[simp] theorem State.setResult_usbEn (c : Result) : (s.setResult c).usbEn = s.usbEn := rfl
@[simp] theorem State.setResult_usbIrqEn (c : Result) : (s.setResult c).usbIrqEn = s.usbIrqEn := rfl
@[simp] theorem State.setResult_fatal (c : Result) : (s.setResult c).fatal = s.fatal := rfl
@[simp] theorem State.setResult_fatalCause (c : Result) : (s.setResult c).fatalCause = s.fatalCause := rfl
@[simp] theorem State.setResult_clk (c : Result) : (s.setResult c).clk = s.clk := rfl
@[simp] theorem State.setResult_keys (c : Result) : (s.setResult c).keys = s.keys := rfl
@[simp] theorem State.setResult_brightLevel (c : Result) : (s.setResult c).brightLevel = s.brightLevel := rfl
@[simp] theorem State.setResult_evtCount (c : Result) : (s.setResult c).evtCount = s.evtCount := rfl
@[simp] theorem State.setResult_evt (c : Result) : (s.setResult c).evt = s.evt := rfl
@[simp] theorem State.setResult_qMem (c : Result) : (s.setResult c).qMem = s.qMem := rfl
@[simp] theorem State.setResult_wptr (c : Result) : (s.setResult c).wptr = s.wptr := rfl
@[simp] theorem State.setResult_rptr (c : Result) : (s.setResult c).rptr = s.rptr := rfl
@[simp] theorem State.setResult_wsync (c : Result) : (s.setResult c).wsync = s.wsync := rfl
@[simp] theorem State.setResult_rsync (c : Result) : (s.setResult c).rsync = s.rsync := rfl
@[simp] theorem State.setResult_configured (c : Result) : (s.setResult c).configured = s.configured := rfl
@[simp] theorem State.setResult_ctrlPending (c : Result) : (s.setResult c).ctrlPending = s.ctrlPending := rfl
@[simp] theorem State.setResult_evPending (c : Result) : (s.setResult c).evPending = s.evPending := rfl
@[simp] theorem State.setResult_kbd (c : Result) : (s.setResult c).kbd = s.kbd := rfl
@[simp] theorem State.setResult_moreHid (c : Result) : (s.setResult c).moreHid = s.moreHid := rfl
@[simp] theorem State.setResult_handler (c : Result) : (s.setResult c).handler = s.handler := rfl
@[simp] theorem State.setResult_renderer (c : Result) : (s.setResult c).renderer = s.renderer := rfl
@[simp] theorem State.setResult_kpLines (c : Result) : (s.setResult c).kpLines = s.kpLines := rfl
@[simp] theorem State.setResult_ledLog (c : Result) : (s.setResult c).ledLog = s.ledLog := rfl
@[simp] theorem State.setResult_hostLog (c : Result) : (s.setResult c).hostLog = s.hostLog := rfl
@[simp] theorem State.setResult_issuing (c : Result) : (s.setResult c).issuing = s.issuing := rfl
@[simp] theorem State.setResult_agenda (c : Result) : (s.setResult c).agenda = s.agenda := rfl
@[simp] theorem State.setResult_busAnswers (c : Result) : (s.setResult c).busAnswers = s.busAnswers := rfl
@[simp] theorem State.setResult_jitterAnswers (c : Result) : (s.setResult c).jitterAnswers = s.jitterAnswers := rfl
@[simp] theorem State.setResult_drawn (c : Result) : (s.setResult c).drawn = s.drawn := rfl
@[simp] theorem State.setResult_rdata (c : Result) : (s.setResult c).rdata = s.rdata := rfl

/-! Fields under State.setResp0. -/

@[simp] theorem State.setResp0_cfg (v : Word) : (s.setResp0 v).cfg = s.cfg := rfl
@[simp] theorem State.setResp0_clkEn (v : Word) : (s.setResp0 v).clkEn = s.clkEn := rfl
@[simp] theorem State.setResp0_rngEn (v : Word) : (s.setResp0 v).rngEn = s.rngEn := rfl
@[simp] theorem State.setResp0_qEn (v : Word) : (s.setResp0 v).qEn = s.qEn := rfl
@[simp] theorem State.setResp0_usbEn (v : Word) : (s.setResp0 v).usbEn = s.usbEn := rfl
@[simp] theorem State.setResp0_usbIrqEn (v : Word) : (s.setResp0 v).usbIrqEn = s.usbIrqEn := rfl
@[simp] theorem State.setResp0_fatal (v : Word) : (s.setResp0 v).fatal = s.fatal := rfl
@[simp] theorem State.setResp0_fatalCause (v : Word) : (s.setResp0 v).fatalCause = s.fatalCause := rfl
@[simp] theorem State.setResp0_clk (v : Word) : (s.setResp0 v).clk = s.clk := rfl
@[simp] theorem State.setResp0_keys (v : Word) : (s.setResp0 v).keys = s.keys := rfl
@[simp] theorem State.setResp0_brightLevel (v : Word) : (s.setResp0 v).brightLevel = s.brightLevel := rfl
@[simp] theorem State.setResp0_evtCount (v : Word) : (s.setResp0 v).evtCount = s.evtCount := rfl
@[simp] theorem State.setResp0_evt (v : Word) : (s.setResp0 v).evt = s.evt := rfl
@[simp] theorem State.setResp0_qMem (v : Word) : (s.setResp0 v).qMem = s.qMem := rfl
@[simp] theorem State.setResp0_wptr (v : Word) : (s.setResp0 v).wptr = s.wptr := rfl
@[simp] theorem State.setResp0_rptr (v : Word) : (s.setResp0 v).rptr = s.rptr := rfl
@[simp] theorem State.setResp0_wsync (v : Word) : (s.setResp0 v).wsync = s.wsync := rfl
@[simp] theorem State.setResp0_rsync (v : Word) : (s.setResp0 v).rsync = s.rsync := rfl
@[simp] theorem State.setResp0_configured (v : Word) : (s.setResp0 v).configured = s.configured := rfl
@[simp] theorem State.setResp0_ctrlPending (v : Word) : (s.setResp0 v).ctrlPending = s.ctrlPending := rfl
@[simp] theorem State.setResp0_evPending (v : Word) : (s.setResp0 v).evPending = s.evPending := rfl
@[simp] theorem State.setResp0_kbd (v : Word) : (s.setResp0 v).kbd = s.kbd := rfl
@[simp] theorem State.setResp0_moreHid (v : Word) : (s.setResp0 v).moreHid = s.moreHid := rfl
@[simp] theorem State.setResp0_handler (v : Word) : (s.setResp0 v).handler = s.handler := rfl
@[simp] theorem State.setResp0_renderer (v : Word) : (s.setResp0 v).renderer = s.renderer := rfl
@[simp] theorem State.setResp0_kpLines (v : Word) : (s.setResp0 v).kpLines = s.kpLines := rfl
@[simp] theorem State.setResp0_ledLog (v : Word) : (s.setResp0 v).ledLog = s.ledLog := rfl
@[simp] theorem State.setResp0_hostLog (v : Word) : (s.setResp0 v).hostLog = s.hostLog := rfl
@[simp] theorem State.setResp0_issuing (v : Word) : (s.setResp0 v).issuing = s.issuing := rfl
@[simp] theorem State.setResp0_agenda (v : Word) : (s.setResp0 v).agenda = s.agenda := rfl
@[simp] theorem State.setResp0_busAnswers (v : Word) : (s.setResp0 v).busAnswers = s.busAnswers := rfl
@[simp] theorem State.setResp0_jitterAnswers (v : Word) : (s.setResp0 v).jitterAnswers = s.jitterAnswers := rfl
@[simp] theorem State.setResp0_drawn (v : Word) : (s.setResp0 v).drawn = s.drawn := rfl
@[simp] theorem State.setResp0_rdata (v : Word) : (s.setResp0 v).rdata = s.rdata := rfl

/-! Fields under State.setResp1. -/

@[simp] theorem State.setResp1_cfg (v : Word) : (s.setResp1 v).cfg = s.cfg := rfl
@[simp] theorem State.setResp1_clkEn (v : Word) : (s.setResp1 v).clkEn = s.clkEn := rfl
@[simp] theorem State.setResp1_rngEn (v : Word) : (s.setResp1 v).rngEn = s.rngEn := rfl
@[simp] theorem State.setResp1_qEn (v : Word) : (s.setResp1 v).qEn = s.qEn := rfl
@[simp] theorem State.setResp1_usbEn (v : Word) : (s.setResp1 v).usbEn = s.usbEn := rfl
@[simp] theorem State.setResp1_usbIrqEn (v : Word) : (s.setResp1 v).usbIrqEn = s.usbIrqEn := rfl
@[simp] theorem State.setResp1_fatal (v : Word) : (s.setResp1 v).fatal = s.fatal := rfl
@[simp] theorem State.setResp1_fatalCause (v : Word) : (s.setResp1 v).fatalCause = s.fatalCause := rfl
@[simp] theorem State.setResp1_clk (v : Word) : (s.setResp1 v).clk = s.clk := rfl
@[simp] theorem State.setResp1_keys (v : Word) : (s.setResp1 v).keys = s.keys := rfl
@[simp] theorem State.setResp1_brightLevel (v : Word) : (s.setResp1 v).brightLevel = s.brightLevel := rfl
@[simp] theorem State.setResp1_evtCount (v : Word) : (s.setResp1 v).evtCount = s.evtCount := rfl
@[simp] theorem State.setResp1_evt (v : Word) : (s.setResp1 v).evt = s.evt := rfl
@[simp] theorem State.setResp1_qMem (v : Word) : (s.setResp1 v).qMem = s.qMem := rfl
@[simp] theorem State.setResp1_wptr (v : Word) : (s.setResp1 v).wptr = s.wptr := rfl
@[simp] theorem State.setResp1_rptr (v : Word) : (s.setResp1 v).rptr = s.rptr := rfl
@[simp] theorem State.setResp1_wsync (v : Word) : (s.setResp1 v).wsync = s.wsync := rfl
@[simp] theorem State.setResp1_rsync (v : Word) : (s.setResp1 v).rsync = s.rsync := rfl
@[simp] theorem State.setResp1_configured (v : Word) : (s.setResp1 v).configured = s.configured := rfl
@[simp] theorem State.setResp1_ctrlPending (v : Word) : (s.setResp1 v).ctrlPending = s.ctrlPending := rfl
@[simp] theorem State.setResp1_evPending (v : Word) : (s.setResp1 v).evPending = s.evPending := rfl
@[simp] theorem State.setResp1_kbd (v : Word) : (s.setResp1 v).kbd = s.kbd := rfl
@[simp] theorem State.setResp1_moreHid (v : Word) : (s.setResp1 v).moreHid = s.moreHid := rfl
@[simp] theorem State.setResp1_handler (v : Word) : (s.setResp1 v).handler = s.handler := rfl
@[simp] theorem State.setResp1_renderer (v : Word) : (s.setResp1 v).renderer = s.renderer := rfl
@[simp] theorem State.setResp1_kpLines (v : Word) : (s.setResp1 v).kpLines = s.kpLines := rfl
@[simp] theorem State.setResp1_ledLog (v : Word) : (s.setResp1 v).ledLog = s.ledLog := rfl
@[simp] theorem State.setResp1_hostLog (v : Word) : (s.setResp1 v).hostLog = s.hostLog := rfl
@[simp] theorem State.setResp1_issuing (v : Word) : (s.setResp1 v).issuing = s.issuing := rfl
@[simp] theorem State.setResp1_agenda (v : Word) : (s.setResp1 v).agenda = s.agenda := rfl
@[simp] theorem State.setResp1_busAnswers (v : Word) : (s.setResp1 v).busAnswers = s.busAnswers := rfl
@[simp] theorem State.setResp1_jitterAnswers (v : Word) : (s.setResp1 v).jitterAnswers = s.jitterAnswers := rfl
@[simp] theorem State.setResp1_drawn (v : Word) : (s.setResp1 v).drawn = s.drawn := rfl
@[simp] theorem State.setResp1_rdata (v : Word) : (s.setResp1 v).rdata = s.rdata := rfl

/-! Fields under State.setResp2. -/

@[simp] theorem State.setResp2_cfg (v : Word) : (s.setResp2 v).cfg = s.cfg := rfl
@[simp] theorem State.setResp2_clkEn (v : Word) : (s.setResp2 v).clkEn = s.clkEn := rfl
@[simp] theorem State.setResp2_rngEn (v : Word) : (s.setResp2 v).rngEn = s.rngEn := rfl
@[simp] theorem State.setResp2_qEn (v : Word) : (s.setResp2 v).qEn = s.qEn := rfl
@[simp] theorem State.setResp2_usbEn (v : Word) : (s.setResp2 v).usbEn = s.usbEn := rfl
@[simp] theorem State.setResp2_usbIrqEn (v : Word) : (s.setResp2 v).usbIrqEn = s.usbIrqEn := rfl
@[simp] theorem State.setResp2_fatal (v : Word) : (s.setResp2 v).fatal = s.fatal := rfl
@[simp] theorem State.setResp2_fatalCause (v : Word) : (s.setResp2 v).fatalCause = s.fatalCause := rfl
@[simp] theorem State.setResp2_clk (v : Word) : (s.setResp2 v).clk = s.clk := rfl
@[simp] theorem State.setResp2_keys (v : Word) : (s.setResp2 v).keys = s.keys := rfl
@[simp] theorem State.setResp2_brightLevel (v : Word) : (s.setResp2 v).brightLevel = s.brightLevel := rfl
@[simp] theorem State.setResp2_evtCount (v : Word) : (s.setResp2 v).evtCount = s.evtCount := rfl
@[simp] theorem State.setResp2_evt (v : Word) : (s.setResp2 v).evt = s.evt := rfl
@[simp] theorem State.setResp2_qMem (v : Word) : (s.setResp2 v).qMem = s.qMem := rfl
@[simp] theorem State.setResp2_wptr (v : Word) : (s.setResp2 v).wptr = s.wptr := rfl
@[simp] theorem State.setResp2_rptr (v : Word) : (s.setResp2 v).rptr = s.rptr := rfl
@[simp] theorem State.setResp2_wsync (v : Word) : (s.setResp2 v).wsync = s.wsync := rfl
@[simp] theorem State.setResp2_rsync (v : Word) : (s.setResp2 v).rsync = s.rsync := rfl
@[simp] theorem State.setResp2_configured (v : Word) : (s.setResp2 v).configured = s.configured := rfl
@[simp] theorem State.setResp2_ctrlPending (v : Word) : (s.setResp2 v).ctrlPending = s.ctrlPending := rfl
@[simp] theorem State.setResp2_evPending (v : Word) : (s.setResp2 v).evPending = s.evPending := rfl
@[simp] theorem State.setResp2_kbd (v : Word) : (s.setResp2 v).kbd = s.kbd := rfl
@[simp] theorem State.setResp2_moreHid (v : Word) : (s.setResp2 v).moreHid = s.moreHid := rfl
@[simp] theorem State.setResp2_handler (v : Word) : (s.setResp2 v).handler = s.handler := rfl
@[simp] theorem State.setResp2_renderer (v : Word) : (s.setResp2 v).renderer = s.renderer := rfl
@[simp] theorem State.setResp2_kpLines (v : Word) : (s.setResp2 v).kpLines = s.kpLines := rfl
@[simp] theorem State.setResp2_ledLog (v : Word) : (s.setResp2 v).ledLog = s.ledLog := rfl
@[simp] theorem State.setResp2_hostLog (v : Word) : (s.setResp2 v).hostLog = s.hostLog := rfl
@[simp] theorem State.setResp2_issuing (v : Word) : (s.setResp2 v).issuing = s.issuing := rfl
@[simp] theorem State.setResp2_agenda (v : Word) : (s.setResp2 v).agenda = s.agenda := rfl
@[simp] theorem State.setResp2_busAnswers (v : Word) : (s.setResp2 v).busAnswers = s.busAnswers := rfl
@[simp] theorem State.setResp2_jitterAnswers (v : Word) : (s.setResp2 v).jitterAnswers = s.jitterAnswers := rfl
@[simp] theorem State.setResp2_drawn (v : Word) : (s.setResp2 v).drawn = s.drawn := rfl
@[simp] theorem State.setResp2_rdata (v : Word) : (s.setResp2 v).rdata = s.rdata := rfl

/-! Fields under State.setBuf. -/

@[simp] theorem State.setBuf_cfg (b : Entry) : (s.setBuf b).cfg = s.cfg := rfl
@[simp] theorem State.setBuf_clkEn (b : Entry) : (s.setBuf b).clkEn = s.clkEn := rfl
@[simp] theorem State.setBuf_rngEn (b : Entry) : (s.setBuf b).rngEn = s.rngEn := rfl
@[simp] theorem State.setBuf_qEn (b : Entry) : (s.setBuf b).qEn = s.qEn := rfl
@[simp] theorem State.setBuf_usbEn (b : Entry) : (s.setBuf b).usbEn = s.usbEn := rfl
@[simp] theorem State.setBuf_usbIrqEn (b : Entry) : (s.setBuf b).usbIrqEn = s.usbIrqEn := rfl
@[simp] theorem State.setBuf_fatal (b : Entry) : (s.setBuf b).fatal = s.fatal := rfl
@[simp] theorem State.setBuf_fatalCause (b : Entry) : (s.setBuf b).fatalCause = s.fatalCause := rfl
@[simp] theorem State.setBuf_clk (b : Entry) : (s.setBuf b).clk = s.clk := rfl
@[simp] theorem State.setBuf_keys (b : Entry) : (s.setBuf b).keys = s.keys := rfl
@[simp] theorem State.setBuf_brightLevel (b : Entry) : (s.setBuf b).brightLevel = s.brightLevel := rfl
@[simp] theorem State.setBuf_evtCount (b : Entry) : (s.setBuf b).evtCount = s.evtCount := rfl
@[simp] theorem State.setBuf_evt (b : Entry) : (s.setBuf b).evt = s.evt := rfl
@[simp] theorem State.setBuf_qMem (b : Entry) : (s.setBuf b).qMem = s.qMem := rfl
@[simp] theorem State.setBuf_wptr (b : Entry) : (s.setBuf b).wptr = s.wptr := rfl
@[simp] theorem State.setBuf_rptr (b : Entry) : (s.setBuf b).rptr = s.rptr := rfl
@[simp] theorem State.setBuf_wsync (b : Entry) : (s.setBuf b).wsync = s.wsync := rfl
@[simp] theorem State.setBuf_rsync (b : Entry) : (s.setBuf b).rsync = s.rsync := rfl
@[simp] theorem State.setBuf_configured (b : Entry) : (s.setBuf b).configured = s.configured := rfl
@[simp] theorem State.setBuf_ctrlPending (b : Entry) : (s.setBuf b).ctrlPending = s.ctrlPending := rfl
@[simp] theorem State.setBuf_evPending (b : Entry) : (s.setBuf b).evPending = s.evPending := rfl
@[simp] theorem State.setBuf_kbd (b : Entry) : (s.setBuf b).kbd = s.kbd := rfl
@[simp] theorem State.setBuf_moreHid (b : Entry) : (s.setBuf b).moreHid = s.moreHid := rfl
@[simp] theorem State.setBuf_handler (b : Entry) : (s.setBuf b).handler = s.handler := rfl
@[simp] theorem State.setBuf_renderer (b : Entry) : (s.setBuf b).renderer = s.renderer := rfl
@[simp] theorem State.setBuf_kpLines (b : Entry) : (s.setBuf b).kpLines = s.kpLines := rfl
@[simp] theorem State.setBuf_ledLog (b : Entry) : (s.setBuf b).ledLog = s.ledLog := rfl
@[simp] theorem State.setBuf_hostLog (b : Entry) : (s.setBuf b).hostLog = s.hostLog := rfl
@[simp] theorem State.setBuf_issuing (b : Entry) : (s.setBuf b).issuing = s.issuing := rfl
@[simp] theorem State.setBuf_agenda (b : Entry) : (s.setBuf b).agenda = s.agenda := rfl
@[simp] theorem State.setBuf_busAnswers (b : Entry) : (s.setBuf b).busAnswers = s.busAnswers := rfl
@[simp] theorem State.setBuf_jitterAnswers (b : Entry) : (s.setBuf b).jitterAnswers = s.jitterAnswers := rfl
@[simp] theorem State.setBuf_drawn (b : Entry) : (s.setBuf b).drawn = s.drawn := rfl
@[simp] theorem State.setBuf_rdata (b : Entry) : (s.setBuf b).rdata = s.rdata := rfl

/-! Fields under State.raiseFatal. -/

@[simp] theorem State.raiseFatal_cfg (c : BitVec 8) : (s.raiseFatal c).cfg = s.cfg := rfl
@[simp] theorem State.raiseFatal_clkEn (c : BitVec 8) : (s.raiseFatal c).clkEn = s.clkEn := rfl
@[simp] theorem State.raiseFatal_rngEn (c : BitVec 8) : (s.raiseFatal c).rngEn = s.rngEn := rfl
@[simp] theorem State.raiseFatal_qEn (c : BitVec 8) : (s.raiseFatal c).qEn = s.qEn := rfl
@[simp] theorem State.raiseFatal_usbEn (c : BitVec 8) : (s.raiseFatal c).usbEn = s.usbEn := rfl
@[simp] theorem State.raiseFatal_usbIrqEn (c : BitVec 8) : (s.raiseFatal c).usbIrqEn = s.usbIrqEn := rfl
@[simp] theorem State.raiseFatal_clk (c : BitVec 8) : (s.raiseFatal c).clk = s.clk := rfl
@[simp] theorem State.raiseFatal_keys (c : BitVec 8) : (s.raiseFatal c).keys = s.keys := rfl
@[simp] theorem State.raiseFatal_brightLevel (c : BitVec 8) : (s.raiseFatal c).brightLevel = s.brightLevel := rfl
@[simp] theorem State.raiseFatal_evtCount (c : BitVec 8) : (s.raiseFatal c).evtCount = s.evtCount := rfl
@[simp] theorem State.raiseFatal_evt (c : BitVec 8) : (s.raiseFatal c).evt = s.evt := rfl
@[simp] theorem State.raiseFatal_qMem (c : BitVec 8) : (s.raiseFatal c).qMem = s.qMem := rfl
@[simp] theorem State.raiseFatal_wptr (c : BitVec 8) : (s.raiseFatal c).wptr = s.wptr := rfl
@[simp] theorem State.raiseFatal_rptr (c : BitVec 8) : (s.raiseFatal c).rptr = s.rptr := rfl
@[simp] theorem State.raiseFatal_wsync (c : BitVec 8) : (s.raiseFatal c).wsync = s.wsync := rfl
@[simp] theorem State.raiseFatal_rsync (c : BitVec 8) : (s.raiseFatal c).rsync = s.rsync := rfl
@[simp] theorem State.raiseFatal_configured (c : BitVec 8) : (s.raiseFatal c).configured = s.configured := rfl
@[simp] theorem State.raiseFatal_ctrlPending (c : BitVec 8) : (s.raiseFatal c).ctrlPending = s.ctrlPending := rfl
@[simp] theorem State.raiseFatal_evPending (c : BitVec 8) : (s.raiseFatal c).evPending = s.evPending := rfl
@[simp] theorem State.raiseFatal_kbd (c : BitVec 8) : (s.raiseFatal c).kbd = s.kbd := rfl
@[simp] theorem State.raiseFatal_moreHid (c : BitVec 8) : (s.raiseFatal c).moreHid = s.moreHid := rfl
@[simp] theorem State.raiseFatal_handler (c : BitVec 8) : (s.raiseFatal c).handler = s.handler := rfl
@[simp] theorem State.raiseFatal_renderer (c : BitVec 8) : (s.raiseFatal c).renderer = s.renderer := rfl
@[simp] theorem State.raiseFatal_kpLines (c : BitVec 8) : (s.raiseFatal c).kpLines = s.kpLines := rfl
@[simp] theorem State.raiseFatal_ledLog (c : BitVec 8) : (s.raiseFatal c).ledLog = s.ledLog := rfl
@[simp] theorem State.raiseFatal_hostLog (c : BitVec 8) : (s.raiseFatal c).hostLog = s.hostLog := rfl
@[simp] theorem State.raiseFatal_issuing (c : BitVec 8) : (s.raiseFatal c).issuing = s.issuing := rfl
@[simp] theorem State.raiseFatal_agenda (c : BitVec 8) : (s.raiseFatal c).agenda = s.agenda := rfl
@[simp] theorem State.raiseFatal_busAnswers (c : BitVec 8) : (s.raiseFatal c).busAnswers = s.busAnswers := rfl
@[simp] theorem State.raiseFatal_jitterAnswers (c : BitVec 8) : (s.raiseFatal c).jitterAnswers = s.jitterAnswers := rfl
@[simp] theorem State.raiseFatal_drawn (c : BitVec 8) : (s.raiseFatal c).drawn = s.drawn := rfl
@[simp] theorem State.raiseFatal_rdata (c : BitVec 8) : (s.raiseFatal c).rdata = s.rdata := rfl

/-! Fields under State.busAsked. -/

@[simp] theorem State.busAsked_cfg : s.busAsked.cfg = s.cfg := by unfold State.busAsked; split <;> rfl
@[simp] theorem State.busAsked_p0 : s.busAsked.p0 = s.p0 := by unfold State.busAsked; split <;> rfl
@[simp] theorem State.busAsked_p1 : s.busAsked.p1 = s.p1 := by unfold State.busAsked; split <;> rfl
@[simp] theorem State.busAsked_p2 : s.busAsked.p2 = s.p2 := by unfold State.busAsked; split <;> rfl
@[simp] theorem State.busAsked_clkEn : s.busAsked.clkEn = s.clkEn := by unfold State.busAsked; split <;> rfl
@[simp] theorem State.busAsked_rngEn : s.busAsked.rngEn = s.rngEn := by unfold State.busAsked; split <;> rfl
@[simp] theorem State.busAsked_qEn : s.busAsked.qEn = s.qEn := by unfold State.busAsked; split <;> rfl
@[simp] theorem State.busAsked_usbEn : s.busAsked.usbEn = s.usbEn := by unfold State.busAsked; split <;> rfl
@[simp] theorem State.busAsked_usbIrqEn : s.busAsked.usbIrqEn = s.usbIrqEn := by unfold State.busAsked; split <;> rfl
@[simp] theorem State.busAsked_fatal : s.busAsked.fatal = s.fatal := by unfold State.busAsked; split <;> rfl
@[simp] theorem State.busAsked_fatalCause : s.busAsked.fatalCause = s.fatalCause := by unfold State.busAsked; split <;> rfl
@[simp] theorem State.busAsked_clk : s.busAsked.clk = s.clk := by unfold State.busAsked; split <;> rfl
@[simp] theorem State.busAsked_keys : s.busAsked.keys = s.keys := by unfold State.busAsked; split <;> rfl
@[simp] theorem State.busAsked_brightLevel : s.busAsked.brightLevel = s.brightLevel := by unfold State.busAsked; split <;> rfl
@[simp] theorem State.busAsked_evtCount : s.busAsked.evtCount = s.evtCount := by unfold State.busAsked; split <;> rfl
@[simp] theorem State.busAsked_evt : s.busAsked.evt = s.evt := by unfold State.busAsked; split <;> rfl
@[simp] theorem State.busAsked_qMem : s.busAsked.qMem = s.qMem := by unfold State.busAsked; split <;> rfl
@[simp] theorem State.busAsked_wptr : s.busAsked.wptr = s.wptr := by unfold State.busAsked; split <;> rfl
@[simp] theorem State.busAsked_rptr : s.busAsked.rptr = s.rptr := by unfold State.busAsked; split <;> rfl
@[simp] theorem State.busAsked_wsync : s.busAsked.wsync = s.wsync := by unfold State.busAsked; split <;> rfl
@[simp] theorem State.busAsked_rsync : s.busAsked.rsync = s.rsync := by unfold State.busAsked; split <;> rfl
@[simp] theorem State.busAsked_configured : s.busAsked.configured = s.configured := by unfold State.busAsked; split <;> rfl
@[simp] theorem State.busAsked_ctrlPending : s.busAsked.ctrlPending = s.ctrlPending := by unfold State.busAsked; split <;> rfl
@[simp] theorem State.busAsked_evPending : s.busAsked.evPending = s.evPending := by unfold State.busAsked; split <;> rfl
@[simp] theorem State.busAsked_kbd : s.busAsked.kbd = s.kbd := by unfold State.busAsked; split <;> rfl
@[simp] theorem State.busAsked_moreHid : s.busAsked.moreHid = s.moreHid := by unfold State.busAsked; split <;> rfl
@[simp] theorem State.busAsked_handler : s.busAsked.handler = s.handler := by unfold State.busAsked; split <;> rfl
@[simp] theorem State.busAsked_renderer : s.busAsked.renderer = s.renderer := by unfold State.busAsked; split <;> rfl
@[simp] theorem State.busAsked_kpLines : s.busAsked.kpLines = s.kpLines := by unfold State.busAsked; split <;> rfl
@[simp] theorem State.busAsked_ledLog : s.busAsked.ledLog = s.ledLog := by unfold State.busAsked; split <;> rfl
@[simp] theorem State.busAsked_hostLog : s.busAsked.hostLog = s.hostLog := by unfold State.busAsked; split <;> rfl
@[simp] theorem State.busAsked_issuing : s.busAsked.issuing = s.issuing := by unfold State.busAsked; split <;> rfl
@[simp] theorem State.busAsked_agenda : s.busAsked.agenda = s.agenda := by unfold State.busAsked; split <;> rfl
@[simp] theorem State.busAsked_jitterAnswers : s.busAsked.jitterAnswers = s.jitterAnswers := by unfold State.busAsked; split <;> rfl
@[simp] theorem State.busAsked_rdata : s.busAsked.rdata = s.rdata := by unfold State.busAsked; split <;> rfl

/-! Fields under State.jitterAsked. -/

@[simp] theorem State.jitterAsked_cfg : s.jitterAsked.cfg = s.cfg := by unfold State.jitterAsked; split <;> rfl
@[simp] theorem State.jitterAsked_p0 : s.jitterAsked.p0 = s.p0 := by unfold State.jitterAsked; split <;> rfl
@[simp] theorem State.jitterAsked_p1 : s.jitterAsked.p1 = s.p1 := by unfold State.jitterAsked; split <;> rfl
@[simp] theorem State.jitterAsked_p2 : s.jitterAsked.p2 = s.p2 := by unfold State.jitterAsked; split <;> rfl
@[simp] theorem State.jitterAsked_clkEn : s.jitterAsked.clkEn = s.clkEn := by unfold State.jitterAsked; split <;> rfl
@[simp] theorem State.jitterAsked_rngEn : s.jitterAsked.rngEn = s.rngEn := by unfold State.jitterAsked; split <;> rfl
@[simp] theorem State.jitterAsked_qEn : s.jitterAsked.qEn = s.qEn := by unfold State.jitterAsked; split <;> rfl
@[simp] theorem State.jitterAsked_usbEn : s.jitterAsked.usbEn = s.usbEn := by unfold State.jitterAsked; split <;> rfl
@[simp] theorem State.jitterAsked_usbIrqEn : s.jitterAsked.usbIrqEn = s.usbIrqEn := by unfold State.jitterAsked; split <;> rfl
@[simp] theorem State.jitterAsked_fatal : s.jitterAsked.fatal = s.fatal := by unfold State.jitterAsked; split <;> rfl
@[simp] theorem State.jitterAsked_fatalCause : s.jitterAsked.fatalCause = s.fatalCause := by unfold State.jitterAsked; split <;> rfl
@[simp] theorem State.jitterAsked_clk : s.jitterAsked.clk = s.clk := by unfold State.jitterAsked; split <;> rfl
@[simp] theorem State.jitterAsked_keys : s.jitterAsked.keys = s.keys := by unfold State.jitterAsked; split <;> rfl
@[simp] theorem State.jitterAsked_brightLevel : s.jitterAsked.brightLevel = s.brightLevel := by unfold State.jitterAsked; split <;> rfl
@[simp] theorem State.jitterAsked_evtCount : s.jitterAsked.evtCount = s.evtCount := by unfold State.jitterAsked; split <;> rfl
@[simp] theorem State.jitterAsked_evt : s.jitterAsked.evt = s.evt := by unfold State.jitterAsked; split <;> rfl
@[simp] theorem State.jitterAsked_qMem : s.jitterAsked.qMem = s.qMem := by unfold State.jitterAsked; split <;> rfl
@[simp] theorem State.jitterAsked_wptr : s.jitterAsked.wptr = s.wptr := by unfold State.jitterAsked; split <;> rfl
@[simp] theorem State.jitterAsked_rptr : s.jitterAsked.rptr = s.rptr := by unfold State.jitterAsked; split <;> rfl
@[simp] theorem State.jitterAsked_wsync : s.jitterAsked.wsync = s.wsync := by unfold State.jitterAsked; split <;> rfl
@[simp] theorem State.jitterAsked_rsync : s.jitterAsked.rsync = s.rsync := by unfold State.jitterAsked; split <;> rfl
@[simp] theorem State.jitterAsked_configured : s.jitterAsked.configured = s.configured := by unfold State.jitterAsked; split <;> rfl
@[simp] theorem State.jitterAsked_ctrlPending : s.jitterAsked.ctrlPending = s.ctrlPending := by unfold State.jitterAsked; split <;> rfl
@[simp] theorem State.jitterAsked_evPending : s.jitterAsked.evPending = s.evPending := by unfold State.jitterAsked; split <;> rfl
@[simp] theorem State.jitterAsked_kbd : s.jitterAsked.kbd = s.kbd := by unfold State.jitterAsked; split <;> rfl
@[simp] theorem State.jitterAsked_moreHid : s.jitterAsked.moreHid = s.moreHid := by unfold State.jitterAsked; split <;> rfl
@[simp] theorem State.jitterAsked_handler : s.jitterAsked.handler = s.handler := by unfold State.jitterAsked; split <;> rfl
@[simp] theorem State.jitterAsked_renderer : s.jitterAsked.renderer = s.renderer := by unfold State.jitterAsked; split <;> rfl
@[simp] theorem State.jitterAsked_kpLines : s.jitterAsked.kpLines = s.kpLines := by unfold State.jitterAsked; split <;> rfl
@[simp] theorem State.jitterAsked_ledLog : s.jitterAsked.ledLog = s.ledLog := by unfold State.jitterAsked; split <;> rfl
@[simp] theorem State.jitterAsked_hostLog : s.jitterAsked.hostLog = s.hostLog := by unfold State.jitterAsked; split <;> rfl
@[simp] theorem State.jitterAsked_issuing : s.jitterAsked.issuing = s.issuing := by unfold State.jitterAsked; split <;> rfl
@[simp] theorem State.jitterAsked_agenda : s.jitterAsked.agenda = s.agenda := by unfold State.jitterAsked; split <;> rfl
@[simp] theorem State.jitterAsked_busAnswers : s.jitterAsked.busAnswers = s.busAnswers := by unfold State.jitterAsked; split <;> rfl
@[simp] theorem State.jitterAsked_rdata : s.jitterAsked.rdata = s.rdata := by unfold State.jitterAsked; split <;> rfl

/-! Fields under State.logLed. -/

@[simp] theorem State.logLed_cfg (x : LedSend) : (s.logLed x).cfg = s.cfg := rfl
@[simp] theorem State.logLed_p0 (x : LedSend) : (s.logLed x).p0 = s.p0 := rfl
@[simp] theorem State.logLed_p1 (x : LedSend) : (s.logLed x).p1 = s.p1 := rfl
@[simp] theorem State.logLed_p2 (x : LedSend) : (s.logLed x).p2 = s.p2 := rfl
@[simp] theorem State.logLed_clkEn (x : LedSend) : (s.logLed x).clkEn = s.clkEn := rfl
@[simp] theorem State.logLed_rngEn (x : LedSend) : (s.logLed x).rngEn = s.rngEn := rfl
@[simp] theorem State.logLed_qEn (x : LedSend) : (s.logLed x).qEn = s.qEn := rfl
@[simp] theorem State.logLed_usbEn (x : LedSend) : (s.logLed x).usbEn = s.usbEn := rfl
@[simp] theorem State.logLed_usbIrqEn (x : LedSend) : (s.logLed x).usbIrqEn = s.usbIrqEn := rfl
@[simp] theorem State.logLed_fatal (x : LedSend) : (s.logLed x).fatal = s.fatal := rfl
@[simp] theorem State.logLed_fatalCause (x : LedSend) : (s.logLed x).fatalCause = s.fatalCause := rfl
@[simp] theorem State.logLed_clk (x : LedSend) : (s.logLed x).clk = s.clk := rfl
@[simp] theorem State.logLed_keys (x : LedSend) : (s.logLed x).keys = s.keys := rfl
@[simp] theorem State.logLed_brightLevel (x : LedSend) : (s.logLed x).brightLevel = s.brightLevel := rfl
@[simp] theorem State.logLed_evtCount (x : LedSend) : (s.logLed x).evtCount = s.evtCount := rfl
@[simp] theorem State.logLed_evt (x : LedSend) : (s.logLed x).evt = s.evt := rfl
@[simp] theorem State.logLed_qMem (x : LedSend) : (s.logLed x).qMem = s.qMem := rfl
@[simp] theorem State.logLed_wptr (x : LedSend) : (s.logLed x).wptr = s.wptr := rfl
@[simp] theorem State.logLed_rptr (x : LedSend) : (s.logLed x).rptr = s.rptr := rfl
@[simp] theorem State.logLed_wsync (x : LedSend) : (s.logLed x).wsync = s.wsync := rfl
@[simp] theorem State.logLed_rsync (x : LedSend) : (s.logLed x).rsync = s.rsync := rfl
@[simp] theorem State.logLed_configured (x : LedSend) : (s.logLed x).configured = s.configured := rfl
@[simp] theorem State.logLed_ctrlPending (x : LedSend) : (s.logLed x).ctrlPending = s.ctrlPending := rfl
@[simp] theorem State.logLed_evPending (x : LedSend) : (s.logLed x).evPending = s.evPending := rfl
@[simp] theorem State.logLed_kbd (x : LedSend) : (s.logLed x).kbd = s.kbd := rfl
@[simp] theorem State.logLed_moreHid (x : LedSend) : (s.logLed x).moreHid = s.moreHid := rfl
@[simp] theorem State.logLed_handler (x : LedSend) : (s.logLed x).handler = s.handler := rfl
@[simp] theorem State.logLed_renderer (x : LedSend) : (s.logLed x).renderer = s.renderer := rfl
@[simp] theorem State.logLed_kpLines (x : LedSend) : (s.logLed x).kpLines = s.kpLines := rfl
@[simp] theorem State.logLed_hostLog (x : LedSend) : (s.logLed x).hostLog = s.hostLog := rfl
@[simp] theorem State.logLed_issuing (x : LedSend) : (s.logLed x).issuing = s.issuing := rfl
@[simp] theorem State.logLed_agenda (x : LedSend) : (s.logLed x).agenda = s.agenda := rfl
@[simp] theorem State.logLed_busAnswers (x : LedSend) : (s.logLed x).busAnswers = s.busAnswers := rfl
@[simp] theorem State.logLed_jitterAnswers (x : LedSend) : (s.logLed x).jitterAnswers = s.jitterAnswers := rfl
@[simp] theorem State.logLed_drawn (x : LedSend) : (s.logLed x).drawn = s.drawn := rfl
@[simp] theorem State.logLed_rdata (x : LedSend) : (s.logLed x).rdata = s.rdata := rfl

/-! Fields under State.clearEvents. -/

@[simp] theorem State.clearEvents_cfg : s.clearEvents.cfg = s.cfg := rfl
@[simp] theorem State.clearEvents_p0 : s.clearEvents.p0 = s.p0 := rfl
@[simp] theorem State.clearEvents_p1 : s.clearEvents.p1 = s.p1 := rfl
@[simp] theorem State.clearEvents_p2 : s.clearEvents.p2 = s.p2 := rfl
@[simp] theorem State.clearEvents_clkEn : s.clearEvents.clkEn = s.clkEn := rfl
@[simp] theorem State.clearEvents_rngEn : s.clearEvents.rngEn = s.rngEn := rfl
@[simp] theorem State.clearEvents_qEn : s.clearEvents.qEn = s.qEn := rfl
@[simp] theorem State.clearEvents_usbEn : s.clearEvents.usbEn = s.usbEn := rfl
@[simp] theorem State.clearEvents_usbIrqEn : s.clearEvents.usbIrqEn = s.usbIrqEn := rfl
@[simp] theorem State.clearEvents_fatal : s.clearEvents.fatal = s.fatal := rfl
@[simp] theorem State.clearEvents_fatalCause : s.clearEvents.fatalCause = s.fatalCause := rfl
@[simp] theorem State.clearEvents_clk : s.clearEvents.clk = s.clk := rfl
@[simp] theorem State.clearEvents_keys : s.clearEvents.keys = s.keys := rfl
@[simp] theorem State.clearEvents_brightLevel : s.clearEvents.brightLevel = s.brightLevel := rfl
@[simp] theorem State.clearEvents_evt : s.clearEvents.evt = s.evt := rfl
@[simp] theorem State.clearEvents_qMem : s.clearEvents.qMem = s.qMem := rfl
@[simp] theorem State.clearEvents_wptr : s.clearEvents.wptr = s.wptr := rfl
@[simp] theorem State.clearEvents_rptr : s.clearEvents.rptr = s.rptr := rfl
@[simp] theorem State.clearEvents_wsync : s.clearEvents.wsync = s.wsync := rfl
@[simp] theorem State.clearEvents_rsync : s.clearEvents.rsync = s.rsync := rfl
@[simp] theorem State.clearEvents_configured : s.clearEvents.configured = s.configured := rfl
@[simp] theorem State.clearEvents_ctrlPending : s.clearEvents.ctrlPending = s.ctrlPending := rfl
@[simp] theorem State.clearEvents_evPending : s.clearEvents.evPending = s.evPending := rfl
@[simp] theorem State.clearEvents_kbd : s.clearEvents.kbd = s.kbd := rfl
@[simp] theorem State.clearEvents_moreHid : s.clearEvents.moreHid = s.moreHid := rfl
@[simp] theorem State.clearEvents_handler : s.clearEvents.handler = s.handler := rfl
@[simp] theorem State.clearEvents_renderer : s.clearEvents.renderer = s.renderer := rfl
@[simp] theorem State.clearEvents_kpLines : s.clearEvents.kpLines = s.kpLines := rfl
@[simp] theorem State.clearEvents_ledLog : s.clearEvents.ledLog = s.ledLog := rfl
@[simp] theorem State.clearEvents_hostLog : s.clearEvents.hostLog = s.hostLog := rfl
@[simp] theorem State.clearEvents_issuing : s.clearEvents.issuing = s.issuing := rfl
@[simp] theorem State.clearEvents_agenda : s.clearEvents.agenda = s.agenda := rfl
@[simp] theorem State.clearEvents_busAnswers : s.clearEvents.busAnswers = s.busAnswers := rfl
@[simp] theorem State.clearEvents_jitterAnswers : s.clearEvents.jitterAnswers = s.jitterAnswers := rfl
@[simp] theorem State.clearEvents_drawn : s.clearEvents.drawn = s.drawn := rfl
@[simp] theorem State.clearEvents_rdata : s.clearEvents.rdata = s.rdata := rfl

/-! Fields under State.emit. -/

@[simp] theorem State.emit_cfg (i : Fin 16) (k : EventKind) : (s.emit i k).cfg = s.cfg := rfl
@[simp] theorem State.emit_p0 (i : Fin 16) (k : EventKind) : (s.emit i k).p0 = s.p0 := rfl
@[simp] theorem State.emit_p1 (i : Fin 16) (k : EventKind) : (s.emit i k).p1 = s.p1 := rfl
@[simp] theorem State.emit_p2 (i : Fin 16) (k : EventKind) : (s.emit i k).p2 = s.p2 := rfl
@[simp] theorem State.emit_clkEn (i : Fin 16) (k : EventKind) : (s.emit i k).clkEn = s.clkEn := rfl
@[simp] theorem State.emit_rngEn (i : Fin 16) (k : EventKind) : (s.emit i k).rngEn = s.rngEn := rfl
@[simp] theorem State.emit_qEn (i : Fin 16) (k : EventKind) : (s.emit i k).qEn = s.qEn := rfl
@[simp] theorem State.emit_usbEn (i : Fin 16) (k : EventKind) : (s.emit i k).usbEn = s.usbEn := rfl
@[simp] theorem State.emit_usbIrqEn (i : Fin 16) (k : EventKind) : (s.emit i k).usbIrqEn = s.usbIrqEn := rfl
@[simp] theorem State.emit_fatal (i : Fin 16) (k : EventKind) : (s.emit i k).fatal = s.fatal := rfl
@[simp] theorem State.emit_fatalCause (i : Fin 16) (k : EventKind) : (s.emit i k).fatalCause = s.fatalCause := rfl
@[simp] theorem State.emit_clk (i : Fin 16) (k : EventKind) : (s.emit i k).clk = s.clk := rfl
@[simp] theorem State.emit_keys (i : Fin 16) (k : EventKind) : (s.emit i k).keys = s.keys := rfl
@[simp] theorem State.emit_brightLevel (i : Fin 16) (k : EventKind) : (s.emit i k).brightLevel = s.brightLevel := rfl
@[simp] theorem State.emit_qMem (i : Fin 16) (k : EventKind) : (s.emit i k).qMem = s.qMem := rfl
@[simp] theorem State.emit_wptr (i : Fin 16) (k : EventKind) : (s.emit i k).wptr = s.wptr := rfl
@[simp] theorem State.emit_rptr (i : Fin 16) (k : EventKind) : (s.emit i k).rptr = s.rptr := rfl
@[simp] theorem State.emit_wsync (i : Fin 16) (k : EventKind) : (s.emit i k).wsync = s.wsync := rfl
@[simp] theorem State.emit_rsync (i : Fin 16) (k : EventKind) : (s.emit i k).rsync = s.rsync := rfl
@[simp] theorem State.emit_configured (i : Fin 16) (k : EventKind) : (s.emit i k).configured = s.configured := rfl
@[simp] theorem State.emit_ctrlPending (i : Fin 16) (k : EventKind) : (s.emit i k).ctrlPending = s.ctrlPending := rfl
@[simp] theorem State.emit_evPending (i : Fin 16) (k : EventKind) : (s.emit i k).evPending = s.evPending := rfl
@[simp] theorem State.emit_kbd (i : Fin 16) (k : EventKind) : (s.emit i k).kbd = s.kbd := rfl
@[simp] theorem State.emit_moreHid (i : Fin 16) (k : EventKind) : (s.emit i k).moreHid = s.moreHid := rfl
@[simp] theorem State.emit_handler (i : Fin 16) (k : EventKind) : (s.emit i k).handler = s.handler := rfl
@[simp] theorem State.emit_renderer (i : Fin 16) (k : EventKind) : (s.emit i k).renderer = s.renderer := rfl
@[simp] theorem State.emit_kpLines (i : Fin 16) (k : EventKind) : (s.emit i k).kpLines = s.kpLines := rfl
@[simp] theorem State.emit_ledLog (i : Fin 16) (k : EventKind) : (s.emit i k).ledLog = s.ledLog := rfl
@[simp] theorem State.emit_hostLog (i : Fin 16) (k : EventKind) : (s.emit i k).hostLog = s.hostLog := rfl
@[simp] theorem State.emit_issuing (i : Fin 16) (k : EventKind) : (s.emit i k).issuing = s.issuing := rfl
@[simp] theorem State.emit_agenda (i : Fin 16) (k : EventKind) : (s.emit i k).agenda = s.agenda := rfl
@[simp] theorem State.emit_busAnswers (i : Fin 16) (k : EventKind) : (s.emit i k).busAnswers = s.busAnswers := rfl
@[simp] theorem State.emit_jitterAnswers (i : Fin 16) (k : EventKind) : (s.emit i k).jitterAnswers = s.jitterAnswers := rfl
@[simp] theorem State.emit_drawn (i : Fin 16) (k : EventKind) : (s.emit i k).drawn = s.drawn := rfl
@[simp] theorem State.emit_rdata (i : Fin 16) (k : EventKind) : (s.emit i k).rdata = s.rdata := rfl

/-! Fields under State.setKey. -/

@[simp] theorem State.setKey_cfg (i : Fin 16) (k : Key) : (s.setKey i k).cfg = s.cfg := rfl
@[simp] theorem State.setKey_p0 (i : Fin 16) (k : Key) : (s.setKey i k).p0 = s.p0 := rfl
@[simp] theorem State.setKey_p1 (i : Fin 16) (k : Key) : (s.setKey i k).p1 = s.p1 := rfl
@[simp] theorem State.setKey_p2 (i : Fin 16) (k : Key) : (s.setKey i k).p2 = s.p2 := rfl
@[simp] theorem State.setKey_clkEn (i : Fin 16) (k : Key) : (s.setKey i k).clkEn = s.clkEn := rfl
@[simp] theorem State.setKey_rngEn (i : Fin 16) (k : Key) : (s.setKey i k).rngEn = s.rngEn := rfl
@[simp] theorem State.setKey_qEn (i : Fin 16) (k : Key) : (s.setKey i k).qEn = s.qEn := rfl
@[simp] theorem State.setKey_usbEn (i : Fin 16) (k : Key) : (s.setKey i k).usbEn = s.usbEn := rfl
@[simp] theorem State.setKey_usbIrqEn (i : Fin 16) (k : Key) : (s.setKey i k).usbIrqEn = s.usbIrqEn := rfl
@[simp] theorem State.setKey_fatal (i : Fin 16) (k : Key) : (s.setKey i k).fatal = s.fatal := rfl
@[simp] theorem State.setKey_fatalCause (i : Fin 16) (k : Key) : (s.setKey i k).fatalCause = s.fatalCause := rfl
@[simp] theorem State.setKey_clk (i : Fin 16) (k : Key) : (s.setKey i k).clk = s.clk := rfl
@[simp] theorem State.setKey_brightLevel (i : Fin 16) (k : Key) : (s.setKey i k).brightLevel = s.brightLevel := rfl
@[simp] theorem State.setKey_evtCount (i : Fin 16) (k : Key) : (s.setKey i k).evtCount = s.evtCount := rfl
@[simp] theorem State.setKey_evt (i : Fin 16) (k : Key) : (s.setKey i k).evt = s.evt := rfl
@[simp] theorem State.setKey_qMem (i : Fin 16) (k : Key) : (s.setKey i k).qMem = s.qMem := rfl
@[simp] theorem State.setKey_wptr (i : Fin 16) (k : Key) : (s.setKey i k).wptr = s.wptr := rfl
@[simp] theorem State.setKey_rptr (i : Fin 16) (k : Key) : (s.setKey i k).rptr = s.rptr := rfl
@[simp] theorem State.setKey_wsync (i : Fin 16) (k : Key) : (s.setKey i k).wsync = s.wsync := rfl
@[simp] theorem State.setKey_rsync (i : Fin 16) (k : Key) : (s.setKey i k).rsync = s.rsync := rfl
@[simp] theorem State.setKey_configured (i : Fin 16) (k : Key) : (s.setKey i k).configured = s.configured := rfl
@[simp] theorem State.setKey_ctrlPending (i : Fin 16) (k : Key) : (s.setKey i k).ctrlPending = s.ctrlPending := rfl
@[simp] theorem State.setKey_evPending (i : Fin 16) (k : Key) : (s.setKey i k).evPending = s.evPending := rfl
@[simp] theorem State.setKey_kbd (i : Fin 16) (k : Key) : (s.setKey i k).kbd = s.kbd := rfl
@[simp] theorem State.setKey_moreHid (i : Fin 16) (k : Key) : (s.setKey i k).moreHid = s.moreHid := rfl
@[simp] theorem State.setKey_handler (i : Fin 16) (k : Key) : (s.setKey i k).handler = s.handler := rfl
@[simp] theorem State.setKey_renderer (i : Fin 16) (k : Key) : (s.setKey i k).renderer = s.renderer := rfl
@[simp] theorem State.setKey_kpLines (i : Fin 16) (k : Key) : (s.setKey i k).kpLines = s.kpLines := rfl
@[simp] theorem State.setKey_ledLog (i : Fin 16) (k : Key) : (s.setKey i k).ledLog = s.ledLog := rfl
@[simp] theorem State.setKey_hostLog (i : Fin 16) (k : Key) : (s.setKey i k).hostLog = s.hostLog := rfl
@[simp] theorem State.setKey_issuing (i : Fin 16) (k : Key) : (s.setKey i k).issuing = s.issuing := rfl
@[simp] theorem State.setKey_agenda (i : Fin 16) (k : Key) : (s.setKey i k).agenda = s.agenda := rfl
@[simp] theorem State.setKey_busAnswers (i : Fin 16) (k : Key) : (s.setKey i k).busAnswers = s.busAnswers := rfl
@[simp] theorem State.setKey_jitterAnswers (i : Fin 16) (k : Key) : (s.setKey i k).jitterAnswers = s.jitterAnswers := rfl
@[simp] theorem State.setKey_drawn (i : Fin 16) (k : Key) : (s.setKey i k).drawn = s.drawn := rfl
@[simp] theorem State.setKey_rdata (i : Fin 16) (k : Key) : (s.setKey i k).rdata = s.rdata := rfl

/-! Fields under State.picked. -/

@[simp] theorem State.picked_cfg : s.picked.cfg = s.cfg := by unfold State.picked; split <;> rfl
@[simp] theorem State.picked_p0 : s.picked.p0 = s.p0 := by unfold State.picked; split <;> rfl
@[simp] theorem State.picked_p1 : s.picked.p1 = s.p1 := by unfold State.picked; split <;> rfl
@[simp] theorem State.picked_p2 : s.picked.p2 = s.p2 := by unfold State.picked; split <;> rfl
@[simp] theorem State.picked_clkEn : s.picked.clkEn = s.clkEn := by unfold State.picked; split <;> rfl
@[simp] theorem State.picked_rngEn : s.picked.rngEn = s.rngEn := by unfold State.picked; split <;> rfl
@[simp] theorem State.picked_qEn : s.picked.qEn = s.qEn := by unfold State.picked; split <;> rfl
@[simp] theorem State.picked_usbEn : s.picked.usbEn = s.usbEn := by unfold State.picked; split <;> rfl
@[simp] theorem State.picked_usbIrqEn : s.picked.usbIrqEn = s.usbIrqEn := by unfold State.picked; split <;> rfl
@[simp] theorem State.picked_fatal : s.picked.fatal = s.fatal := by unfold State.picked; split <;> rfl
@[simp] theorem State.picked_fatalCause : s.picked.fatalCause = s.fatalCause := by unfold State.picked; split <;> rfl
@[simp] theorem State.picked_clk : s.picked.clk = s.clk := by unfold State.picked; split <;> rfl
@[simp] theorem State.picked_keys : s.picked.keys = s.keys := by unfold State.picked; split <;> rfl
@[simp] theorem State.picked_brightLevel : s.picked.brightLevel = s.brightLevel := by unfold State.picked; split <;> rfl
@[simp] theorem State.picked_evtCount : s.picked.evtCount = s.evtCount := by unfold State.picked; split <;> rfl
@[simp] theorem State.picked_evt : s.picked.evt = s.evt := by unfold State.picked; split <;> rfl
@[simp] theorem State.picked_qMem : s.picked.qMem = s.qMem := by unfold State.picked; split <;> rfl
@[simp] theorem State.picked_wptr : s.picked.wptr = s.wptr := by unfold State.picked; split <;> rfl
@[simp] theorem State.picked_rptr : s.picked.rptr = s.rptr := by unfold State.picked; split <;> rfl
@[simp] theorem State.picked_wsync : s.picked.wsync = s.wsync := by unfold State.picked; split <;> rfl
@[simp] theorem State.picked_rsync : s.picked.rsync = s.rsync := by unfold State.picked; split <;> rfl
@[simp] theorem State.picked_configured : s.picked.configured = s.configured := by unfold State.picked; split <;> rfl
@[simp] theorem State.picked_ctrlPending : s.picked.ctrlPending = s.ctrlPending := by unfold State.picked; split <;> rfl
@[simp] theorem State.picked_evPending : s.picked.evPending = s.evPending := by unfold State.picked; split <;> rfl
@[simp] theorem State.picked_kbd : s.picked.kbd = s.kbd := by unfold State.picked; split <;> rfl
@[simp] theorem State.picked_moreHid : s.picked.moreHid = s.moreHid := by unfold State.picked; split <;> rfl
@[simp] theorem State.picked_handler : s.picked.handler = s.handler := by unfold State.picked; split <;> rfl
@[simp] theorem State.picked_renderer : s.picked.renderer = s.renderer := by unfold State.picked; split <;> rfl
@[simp] theorem State.picked_kpLines : s.picked.kpLines = s.kpLines := by unfold State.picked; split <;> rfl
@[simp] theorem State.picked_ledLog : s.picked.ledLog = s.ledLog := by unfold State.picked; split <;> rfl
@[simp] theorem State.picked_hostLog : s.picked.hostLog = s.hostLog := by unfold State.picked; split <;> rfl
@[simp] theorem State.picked_issuing : s.picked.issuing = s.issuing := by unfold State.picked; split <;> rfl
@[simp] theorem State.picked_busAnswers : s.picked.busAnswers = s.busAnswers := by unfold State.picked; split <;> rfl
@[simp] theorem State.picked_jitterAnswers : s.picked.jitterAnswers = s.jitterAnswers := by unfold State.picked; split <;> rfl
@[simp] theorem State.picked_rdata : s.picked.rdata = s.rdata := by unfold State.picked; split <;> rfl

/-! Fields under State.modifyHid. -/

@[simp] theorem State.modifyHid_cfg (h : Nat) (g : HidInstance → HidInstance) : (s.modifyHid h g).cfg = s.cfg := by cases h <;> rfl
@[simp] theorem State.modifyHid_p0 (h : Nat) (g : HidInstance → HidInstance) : (s.modifyHid h g).p0 = s.p0 := by cases h <;> rfl
@[simp] theorem State.modifyHid_p1 (h : Nat) (g : HidInstance → HidInstance) : (s.modifyHid h g).p1 = s.p1 := by cases h <;> rfl
@[simp] theorem State.modifyHid_p2 (h : Nat) (g : HidInstance → HidInstance) : (s.modifyHid h g).p2 = s.p2 := by cases h <;> rfl
@[simp] theorem State.modifyHid_clkEn (h : Nat) (g : HidInstance → HidInstance) : (s.modifyHid h g).clkEn = s.clkEn := by cases h <;> rfl
@[simp] theorem State.modifyHid_rngEn (h : Nat) (g : HidInstance → HidInstance) : (s.modifyHid h g).rngEn = s.rngEn := by cases h <;> rfl
@[simp] theorem State.modifyHid_qEn (h : Nat) (g : HidInstance → HidInstance) : (s.modifyHid h g).qEn = s.qEn := by cases h <;> rfl
@[simp] theorem State.modifyHid_usbEn (h : Nat) (g : HidInstance → HidInstance) : (s.modifyHid h g).usbEn = s.usbEn := by cases h <;> rfl
@[simp] theorem State.modifyHid_usbIrqEn (h : Nat) (g : HidInstance → HidInstance) : (s.modifyHid h g).usbIrqEn = s.usbIrqEn := by cases h <;> rfl
@[simp] theorem State.modifyHid_fatal (h : Nat) (g : HidInstance → HidInstance) : (s.modifyHid h g).fatal = s.fatal := by cases h <;> rfl
@[simp] theorem State.modifyHid_fatalCause (h : Nat) (g : HidInstance → HidInstance) : (s.modifyHid h g).fatalCause = s.fatalCause := by cases h <;> rfl
@[simp] theorem State.modifyHid_clk (h : Nat) (g : HidInstance → HidInstance) : (s.modifyHid h g).clk = s.clk := by cases h <;> rfl
@[simp] theorem State.modifyHid_keys (h : Nat) (g : HidInstance → HidInstance) : (s.modifyHid h g).keys = s.keys := by cases h <;> rfl
@[simp] theorem State.modifyHid_brightLevel (h : Nat) (g : HidInstance → HidInstance) : (s.modifyHid h g).brightLevel = s.brightLevel := by cases h <;> rfl
@[simp] theorem State.modifyHid_evtCount (h : Nat) (g : HidInstance → HidInstance) : (s.modifyHid h g).evtCount = s.evtCount := by cases h <;> rfl
@[simp] theorem State.modifyHid_evt (h : Nat) (g : HidInstance → HidInstance) : (s.modifyHid h g).evt = s.evt := by cases h <;> rfl
@[simp] theorem State.modifyHid_qMem (h : Nat) (g : HidInstance → HidInstance) : (s.modifyHid h g).qMem = s.qMem := by cases h <;> rfl
@[simp] theorem State.modifyHid_wptr (h : Nat) (g : HidInstance → HidInstance) : (s.modifyHid h g).wptr = s.wptr := by cases h <;> rfl
@[simp] theorem State.modifyHid_rptr (h : Nat) (g : HidInstance → HidInstance) : (s.modifyHid h g).rptr = s.rptr := by cases h <;> rfl
@[simp] theorem State.modifyHid_wsync (h : Nat) (g : HidInstance → HidInstance) : (s.modifyHid h g).wsync = s.wsync := by cases h <;> rfl
@[simp] theorem State.modifyHid_rsync (h : Nat) (g : HidInstance → HidInstance) : (s.modifyHid h g).rsync = s.rsync := by cases h <;> rfl
@[simp] theorem State.modifyHid_configured (h : Nat) (g : HidInstance → HidInstance) : (s.modifyHid h g).configured = s.configured := by cases h <;> rfl
@[simp] theorem State.modifyHid_ctrlPending (h : Nat) (g : HidInstance → HidInstance) : (s.modifyHid h g).ctrlPending = s.ctrlPending := by cases h <;> rfl
@[simp] theorem State.modifyHid_evPending (h : Nat) (g : HidInstance → HidInstance) : (s.modifyHid h g).evPending = s.evPending := by cases h <;> rfl
@[simp] theorem State.modifyHid_handler (h : Nat) (g : HidInstance → HidInstance) : (s.modifyHid h g).handler = s.handler := by cases h <;> rfl
@[simp] theorem State.modifyHid_renderer (h : Nat) (g : HidInstance → HidInstance) : (s.modifyHid h g).renderer = s.renderer := by cases h <;> rfl
@[simp] theorem State.modifyHid_kpLines (h : Nat) (g : HidInstance → HidInstance) : (s.modifyHid h g).kpLines = s.kpLines := by cases h <;> rfl
@[simp] theorem State.modifyHid_ledLog (h : Nat) (g : HidInstance → HidInstance) : (s.modifyHid h g).ledLog = s.ledLog := by cases h <;> rfl
@[simp] theorem State.modifyHid_hostLog (h : Nat) (g : HidInstance → HidInstance) : (s.modifyHid h g).hostLog = s.hostLog := by cases h <;> rfl
@[simp] theorem State.modifyHid_issuing (h : Nat) (g : HidInstance → HidInstance) : (s.modifyHid h g).issuing = s.issuing := by cases h <;> rfl
@[simp] theorem State.modifyHid_agenda (h : Nat) (g : HidInstance → HidInstance) : (s.modifyHid h g).agenda = s.agenda := by cases h <;> rfl
@[simp] theorem State.modifyHid_busAnswers (h : Nat) (g : HidInstance → HidInstance) : (s.modifyHid h g).busAnswers = s.busAnswers := by cases h <;> rfl
@[simp] theorem State.modifyHid_jitterAnswers (h : Nat) (g : HidInstance → HidInstance) : (s.modifyHid h g).jitterAnswers = s.jitterAnswers := by cases h <;> rfl
@[simp] theorem State.modifyHid_drawn (h : Nat) (g : HidInstance → HidInstance) : (s.modifyHid h g).drawn = s.drawn := by cases h <;> rfl
@[simp] theorem State.modifyHid_rdata (h : Nat) (g : HidInstance → HidInstance) : (s.modifyHid h g).rdata = s.rdata := by cases h <;> rfl

/-! Fields under State.hostConfigure. -/

@[simp] theorem State.hostConfigure_cfg : s.hostConfigure.cfg = s.cfg := rfl
@[simp] theorem State.hostConfigure_p0 : s.hostConfigure.p0 = s.p0 := rfl
@[simp] theorem State.hostConfigure_p1 : s.hostConfigure.p1 = s.p1 := rfl
@[simp] theorem State.hostConfigure_p2 : s.hostConfigure.p2 = s.p2 := rfl
@[simp] theorem State.hostConfigure_clkEn : s.hostConfigure.clkEn = s.clkEn := rfl
@[simp] theorem State.hostConfigure_rngEn : s.hostConfigure.rngEn = s.rngEn := rfl
@[simp] theorem State.hostConfigure_qEn : s.hostConfigure.qEn = s.qEn := rfl
@[simp] theorem State.hostConfigure_usbEn : s.hostConfigure.usbEn = s.usbEn := rfl
@[simp] theorem State.hostConfigure_usbIrqEn : s.hostConfigure.usbIrqEn = s.usbIrqEn := rfl
@[simp] theorem State.hostConfigure_fatal : s.hostConfigure.fatal = s.fatal := rfl
@[simp] theorem State.hostConfigure_fatalCause : s.hostConfigure.fatalCause = s.fatalCause := rfl
@[simp] theorem State.hostConfigure_clk : s.hostConfigure.clk = s.clk := rfl
@[simp] theorem State.hostConfigure_keys : s.hostConfigure.keys = s.keys := rfl
@[simp] theorem State.hostConfigure_brightLevel : s.hostConfigure.brightLevel = s.brightLevel := rfl
@[simp] theorem State.hostConfigure_evtCount : s.hostConfigure.evtCount = s.evtCount := rfl
@[simp] theorem State.hostConfigure_evt : s.hostConfigure.evt = s.evt := rfl
@[simp] theorem State.hostConfigure_qMem : s.hostConfigure.qMem = s.qMem := rfl
@[simp] theorem State.hostConfigure_wptr : s.hostConfigure.wptr = s.wptr := rfl
@[simp] theorem State.hostConfigure_rptr : s.hostConfigure.rptr = s.rptr := rfl
@[simp] theorem State.hostConfigure_wsync : s.hostConfigure.wsync = s.wsync := rfl
@[simp] theorem State.hostConfigure_rsync : s.hostConfigure.rsync = s.rsync := rfl
@[simp] theorem State.hostConfigure_configured : s.hostConfigure.configured = s.configured := rfl
@[simp] theorem State.hostConfigure_kbd : s.hostConfigure.kbd = s.kbd := rfl
@[simp] theorem State.hostConfigure_moreHid : s.hostConfigure.moreHid = s.moreHid := rfl
@[simp] theorem State.hostConfigure_handler : s.hostConfigure.handler = s.handler := rfl
@[simp] theorem State.hostConfigure_renderer : s.hostConfigure.renderer = s.renderer := rfl
@[simp] theorem State.hostConfigure_kpLines : s.hostConfigure.kpLines = s.kpLines := rfl
@[simp] theorem State.hostConfigure_ledLog : s.hostConfigure.ledLog = s.ledLog := rfl
@[simp] theorem State.hostConfigure_hostLog : s.hostConfigure.hostLog = s.hostLog := rfl
@[simp] theorem State.hostConfigure_issuing : s.hostConfigure.issuing = s.issuing := rfl
@[simp] theorem State.hostConfigure_agenda : s.hostConfigure.agenda = s.agenda := rfl
@[simp] theorem State.hostConfigure_busAnswers : s.hostConfigure.busAnswers = s.busAnswers := rfl
@[simp] theorem State.hostConfigure_jitterAnswers : s.hostConfigure.jitterAnswers = s.jitterAnswers := rfl
@[simp] theorem State.hostConfigure_drawn : s.hostConfigure.drawn = s.drawn := rfl
@[simp] theorem State.hostConfigure_rdata : s.hostConfigure.rdata = s.rdata := rfl

/-! Fields under State.hostReset. -/

@[simp] theorem State.hostReset_cfg : s.hostReset.cfg = s.cfg := rfl
@[simp] theorem State.hostReset_p0 : s.hostReset.p0 = s.p0 := rfl
@[simp] theorem State.hostReset_p1 : s.hostReset.p1 = s.p1 := rfl
@[simp] theorem State.hostReset_p2 : s.hostReset.p2 = s.p2 := rfl
@[simp] theorem State.hostReset_clkEn : s.hostReset.clkEn = s.clkEn := rfl
@[simp] theorem State.hostReset_rngEn : s.hostReset.rngEn = s.rngEn := rfl
@[simp] theorem State.hostReset_qEn : s.hostReset.qEn = s.qEn := rfl
@[simp] theorem State.hostReset_usbEn : s.hostReset.usbEn = s.usbEn := rfl
@[simp] theorem State.hostReset_usbIrqEn : s.hostReset.usbIrqEn = s.usbIrqEn := rfl
@[simp] theorem State.hostReset_fatal : s.hostReset.fatal = s.fatal := rfl
@[simp] theorem State.hostReset_fatalCause : s.hostReset.fatalCause = s.fatalCause := rfl
@[simp] theorem State.hostReset_clk : s.hostReset.clk = s.clk := rfl
@[simp] theorem State.hostReset_keys : s.hostReset.keys = s.keys := rfl
@[simp] theorem State.hostReset_brightLevel : s.hostReset.brightLevel = s.brightLevel := rfl
@[simp] theorem State.hostReset_evtCount : s.hostReset.evtCount = s.evtCount := rfl
@[simp] theorem State.hostReset_evt : s.hostReset.evt = s.evt := rfl
@[simp] theorem State.hostReset_qMem : s.hostReset.qMem = s.qMem := rfl
@[simp] theorem State.hostReset_wptr : s.hostReset.wptr = s.wptr := rfl
@[simp] theorem State.hostReset_rptr : s.hostReset.rptr = s.rptr := rfl
@[simp] theorem State.hostReset_wsync : s.hostReset.wsync = s.wsync := rfl
@[simp] theorem State.hostReset_rsync : s.hostReset.rsync = s.rsync := rfl
@[simp] theorem State.hostReset_handler : s.hostReset.handler = s.handler := rfl
@[simp] theorem State.hostReset_renderer : s.hostReset.renderer = s.renderer := rfl
@[simp] theorem State.hostReset_kpLines : s.hostReset.kpLines = s.kpLines := rfl
@[simp] theorem State.hostReset_ledLog : s.hostReset.ledLog = s.ledLog := rfl
@[simp] theorem State.hostReset_hostLog : s.hostReset.hostLog = s.hostLog := rfl
@[simp] theorem State.hostReset_issuing : s.hostReset.issuing = s.issuing := rfl
@[simp] theorem State.hostReset_agenda : s.hostReset.agenda = s.agenda := rfl
@[simp] theorem State.hostReset_busAnswers : s.hostReset.busAnswers = s.busAnswers := rfl
@[simp] theorem State.hostReset_jitterAnswers : s.hostReset.jitterAnswers = s.jitterAnswers := rfl
@[simp] theorem State.hostReset_drawn : s.hostReset.drawn = s.drawn := rfl
@[simp] theorem State.hostReset_rdata : s.hostReset.rdata = s.rdata := rfl

/-! Fields under State.hostTake. -/

@[simp] theorem State.hostTake_cfg (h : Nat) : (s.hostTake h).cfg = s.cfg := by cases h <;> rfl
@[simp] theorem State.hostTake_p0 (h : Nat) : (s.hostTake h).p0 = s.p0 := by cases h <;> rfl
@[simp] theorem State.hostTake_p1 (h : Nat) : (s.hostTake h).p1 = s.p1 := by cases h <;> rfl
@[simp] theorem State.hostTake_p2 (h : Nat) : (s.hostTake h).p2 = s.p2 := by cases h <;> rfl
@[simp] theorem State.hostTake_clkEn (h : Nat) : (s.hostTake h).clkEn = s.clkEn := by cases h <;> rfl
@[simp] theorem State.hostTake_rngEn (h : Nat) : (s.hostTake h).rngEn = s.rngEn := by cases h <;> rfl
@[simp] theorem State.hostTake_qEn (h : Nat) : (s.hostTake h).qEn = s.qEn := by cases h <;> rfl
@[simp] theorem State.hostTake_usbEn (h : Nat) : (s.hostTake h).usbEn = s.usbEn := by cases h <;> rfl
@[simp] theorem State.hostTake_usbIrqEn (h : Nat) : (s.hostTake h).usbIrqEn = s.usbIrqEn := by cases h <;> rfl
@[simp] theorem State.hostTake_fatal (h : Nat) : (s.hostTake h).fatal = s.fatal := by cases h <;> rfl
@[simp] theorem State.hostTake_fatalCause (h : Nat) : (s.hostTake h).fatalCause = s.fatalCause := by cases h <;> rfl
@[simp] theorem State.hostTake_clk (h : Nat) : (s.hostTake h).clk = s.clk := by cases h <;> rfl
@[simp] theorem State.hostTake_keys (h : Nat) : (s.hostTake h).keys = s.keys := by cases h <;> rfl
@[simp] theorem State.hostTake_brightLevel (h : Nat) : (s.hostTake h).brightLevel = s.brightLevel := by cases h <;> rfl
@[simp] theorem State.hostTake_evtCount (h : Nat) : (s.hostTake h).evtCount = s.evtCount := by cases h <;> rfl
@[simp] theorem State.hostTake_evt (h : Nat) : (s.hostTake h).evt = s.evt := by cases h <;> rfl
@[simp] theorem State.hostTake_qMem (h : Nat) : (s.hostTake h).qMem = s.qMem := by cases h <;> rfl
@[simp] theorem State.hostTake_wptr (h : Nat) : (s.hostTake h).wptr = s.wptr := by cases h <;> rfl
@[simp] theorem State.hostTake_rptr (h : Nat) : (s.hostTake h).rptr = s.rptr := by cases h <;> rfl
@[simp] theorem State.hostTake_wsync (h : Nat) : (s.hostTake h).wsync = s.wsync := by cases h <;> rfl
@[simp] theorem State.hostTake_rsync (h : Nat) : (s.hostTake h).rsync = s.rsync := by cases h <;> rfl
@[simp] theorem State.hostTake_configured (h : Nat) : (s.hostTake h).configured = s.configured := by cases h <;> rfl
@[simp] theorem State.hostTake_ctrlPending (h : Nat) : (s.hostTake h).ctrlPending = s.ctrlPending := by cases h <;> rfl
@[simp] theorem State.hostTake_handler (h : Nat) : (s.hostTake h).handler = s.handler := by cases h <;> rfl
@[simp] theorem State.hostTake_renderer (h : Nat) : (s.hostTake h).renderer = s.renderer := by cases h <;> rfl
@[simp] theorem State.hostTake_kpLines (h : Nat) : (s.hostTake h).kpLines = s.kpLines := by cases h <;> rfl
@[simp] theorem State.hostTake_ledLog (h : Nat) : (s.hostTake h).ledLog = s.ledLog := by cases h <;> rfl
@[simp] theorem State.hostTake_issuing (h : Nat) : (s.hostTake h).issuing = s.issuing := by cases h <;> rfl
@[simp] theorem State.hostTake_agenda (h : Nat) : (s.hostTake h).agenda = s.agenda := by cases h <;> rfl
@[simp] theorem State.hostTake_busAnswers (h : Nat) : (s.hostTake h).busAnswers = s.busAnswers := by cases h <;> rfl
@[simp] theorem State.hostTake_jitterAnswers (h : Nat) : (s.hostTake h).jitterAnswers = s.jitterAnswers := by cases h <;> rfl
@[simp] theorem State.hostTake_drawn (h : Nat) : (s.hostTake h).drawn = s.drawn := by cases h <;> rfl
@[simp] theorem State.hostTake_rdata (h : Nat) : (s.hostTake h).rdata = s.rdata := by cases h <;> rfl

/-! Fields under State.hostOut. -/

@[simp] theorem State.hostOut_cfg (h : Nat) : (s.hostOut h).cfg = s.cfg := by cases h <;> rfl
@[simp] theorem State.hostOut_p0 (h : Nat) : (s.hostOut h).p0 = s.p0 := by cases h <;> rfl
@[simp] theorem State.hostOut_p1 (h : Nat) : (s.hostOut h).p1 = s.p1 := by cases h <;> rfl
@[simp] theorem State.hostOut_p2 (h : Nat) : (s.hostOut h).p2 = s.p2 := by cases h <;> rfl
@[simp] theorem State.hostOut_clkEn (h : Nat) : (s.hostOut h).clkEn = s.clkEn := by cases h <;> rfl
@[simp] theorem State.hostOut_rngEn (h : Nat) : (s.hostOut h).rngEn = s.rngEn := by cases h <;> rfl
@[simp] theorem State.hostOut_qEn (h : Nat) : (s.hostOut h).qEn = s.qEn := by cases h <;> rfl
@[simp] theorem State.hostOut_usbEn (h : Nat) : (s.hostOut h).usbEn = s.usbEn := by cases h <;> rfl
@[simp] theorem State.hostOut_usbIrqEn (h : Nat) : (s.hostOut h).usbIrqEn = s.usbIrqEn := by cases h <;> rfl
@[simp] theorem State.hostOut_fatal (h : Nat) : (s.hostOut h).fatal = s.fatal := by cases h <;> rfl
@[simp] theorem State.hostOut_fatalCause (h : Nat) : (s.hostOut h).fatalCause = s.fatalCause := by cases h <;> rfl
@[simp] theorem State.hostOut_clk (h : Nat) : (s.hostOut h).clk = s.clk := by cases h <;> rfl
@[simp] theorem State.hostOut_keys (h : Nat) : (s.hostOut h).keys = s.keys := by cases h <;> rfl
@[simp] theorem State.hostOut_brightLevel (h : Nat) : (s.hostOut h).brightLevel = s.brightLevel := by cases h <;> rfl
@[simp] theorem State.hostOut_evtCount (h : Nat) : (s.hostOut h).evtCount = s.evtCount := by cases h <;> rfl
@[simp] theorem State.hostOut_evt (h : Nat) : (s.hostOut h).evt = s.evt := by cases h <;> rfl
@[simp] theorem State.hostOut_qMem (h : Nat) : (s.hostOut h).qMem = s.qMem := by cases h <;> rfl
@[simp] theorem State.hostOut_wptr (h : Nat) : (s.hostOut h).wptr = s.wptr := by cases h <;> rfl
@[simp] theorem State.hostOut_rptr (h : Nat) : (s.hostOut h).rptr = s.rptr := by cases h <;> rfl
@[simp] theorem State.hostOut_wsync (h : Nat) : (s.hostOut h).wsync = s.wsync := by cases h <;> rfl
@[simp] theorem State.hostOut_rsync (h : Nat) : (s.hostOut h).rsync = s.rsync := by cases h <;> rfl
@[simp] theorem State.hostOut_configured (h : Nat) : (s.hostOut h).configured = s.configured := by cases h <;> rfl
@[simp] theorem State.hostOut_ctrlPending (h : Nat) : (s.hostOut h).ctrlPending = s.ctrlPending := by cases h <;> rfl
@[simp] theorem State.hostOut_handler (h : Nat) : (s.hostOut h).handler = s.handler := by cases h <;> rfl
@[simp] theorem State.hostOut_renderer (h : Nat) : (s.hostOut h).renderer = s.renderer := by cases h <;> rfl
@[simp] theorem State.hostOut_kpLines (h : Nat) : (s.hostOut h).kpLines = s.kpLines := by cases h <;> rfl
@[simp] theorem State.hostOut_ledLog (h : Nat) : (s.hostOut h).ledLog = s.ledLog := by cases h <;> rfl
@[simp] theorem State.hostOut_hostLog (h : Nat) : (s.hostOut h).hostLog = s.hostLog := by cases h <;> rfl
@[simp] theorem State.hostOut_issuing (h : Nat) : (s.hostOut h).issuing = s.issuing := by cases h <;> rfl
@[simp] theorem State.hostOut_agenda (h : Nat) : (s.hostOut h).agenda = s.agenda := by cases h <;> rfl
@[simp] theorem State.hostOut_busAnswers (h : Nat) : (s.hostOut h).busAnswers = s.busAnswers := by cases h <;> rfl
@[simp] theorem State.hostOut_jitterAnswers (h : Nat) : (s.hostOut h).jitterAnswers = s.jitterAnswers := by cases h <;> rfl
@[simp] theorem State.hostOut_drawn (h : Nat) : (s.hostOut h).drawn = s.drawn := by cases h <;> rfl
@[simp] theorem State.hostOut_rdata (h : Nat) : (s.hostOut h).rdata = s.rdata := by cases h <;> rfl

/-! Fields under State.enterHandler. -/

@[simp] theorem State.enterHandler_cfg : s.enterHandler.cfg = s.cfg := rfl
@[simp] theorem State.enterHandler_p0 : s.enterHandler.p0 = s.p0 := rfl
@[simp] theorem State.enterHandler_p1 : s.enterHandler.p1 = s.p1 := rfl
@[simp] theorem State.enterHandler_p2 : s.enterHandler.p2 = s.p2 := rfl
@[simp] theorem State.enterHandler_clkEn : s.enterHandler.clkEn = s.clkEn := rfl
@[simp] theorem State.enterHandler_rngEn : s.enterHandler.rngEn = s.rngEn := rfl
@[simp] theorem State.enterHandler_qEn : s.enterHandler.qEn = s.qEn := rfl
@[simp] theorem State.enterHandler_usbEn : s.enterHandler.usbEn = s.usbEn := rfl
@[simp] theorem State.enterHandler_usbIrqEn : s.enterHandler.usbIrqEn = s.usbIrqEn := rfl
@[simp] theorem State.enterHandler_fatal : s.enterHandler.fatal = s.fatal := rfl
@[simp] theorem State.enterHandler_fatalCause : s.enterHandler.fatalCause = s.fatalCause := rfl
@[simp] theorem State.enterHandler_clk : s.enterHandler.clk = s.clk := rfl
@[simp] theorem State.enterHandler_keys : s.enterHandler.keys = s.keys := rfl
@[simp] theorem State.enterHandler_brightLevel : s.enterHandler.brightLevel = s.brightLevel := rfl
@[simp] theorem State.enterHandler_evtCount : s.enterHandler.evtCount = s.evtCount := rfl
@[simp] theorem State.enterHandler_evt : s.enterHandler.evt = s.evt := rfl
@[simp] theorem State.enterHandler_qMem : s.enterHandler.qMem = s.qMem := rfl
@[simp] theorem State.enterHandler_wptr : s.enterHandler.wptr = s.wptr := rfl
@[simp] theorem State.enterHandler_rptr : s.enterHandler.rptr = s.rptr := rfl
@[simp] theorem State.enterHandler_wsync : s.enterHandler.wsync = s.wsync := rfl
@[simp] theorem State.enterHandler_rsync : s.enterHandler.rsync = s.rsync := rfl
@[simp] theorem State.enterHandler_configured : s.enterHandler.configured = s.configured := rfl
@[simp] theorem State.enterHandler_ctrlPending : s.enterHandler.ctrlPending = s.ctrlPending := rfl
@[simp] theorem State.enterHandler_evPending : s.enterHandler.evPending = s.evPending := rfl
@[simp] theorem State.enterHandler_kbd : s.enterHandler.kbd = s.kbd := rfl
@[simp] theorem State.enterHandler_moreHid : s.enterHandler.moreHid = s.moreHid := rfl
@[simp] theorem State.enterHandler_renderer : s.enterHandler.renderer = s.renderer := rfl
@[simp] theorem State.enterHandler_kpLines : s.enterHandler.kpLines = s.kpLines := rfl
@[simp] theorem State.enterHandler_ledLog : s.enterHandler.ledLog = s.ledLog := rfl
@[simp] theorem State.enterHandler_hostLog : s.enterHandler.hostLog = s.hostLog := rfl
@[simp] theorem State.enterHandler_issuing : s.enterHandler.issuing = s.issuing := rfl
@[simp] theorem State.enterHandler_agenda : s.enterHandler.agenda = s.agenda := rfl
@[simp] theorem State.enterHandler_busAnswers : s.enterHandler.busAnswers = s.busAnswers := rfl
@[simp] theorem State.enterHandler_jitterAnswers : s.enterHandler.jitterAnswers = s.jitterAnswers := rfl
@[simp] theorem State.enterHandler_drawn : s.enterHandler.drawn = s.drawn := rfl
@[simp] theorem State.enterHandler_rdata : s.enterHandler.rdata = s.rdata := rfl

/-! Fields under State.leaveHandler. -/

@[simp] theorem State.leaveHandler_cfg : s.leaveHandler.cfg = s.cfg := rfl
@[simp] theorem State.leaveHandler_p0 : s.leaveHandler.p0 = s.p0 := rfl
@[simp] theorem State.leaveHandler_p1 : s.leaveHandler.p1 = s.p1 := rfl
@[simp] theorem State.leaveHandler_p2 : s.leaveHandler.p2 = s.p2 := rfl
@[simp] theorem State.leaveHandler_clkEn : s.leaveHandler.clkEn = s.clkEn := rfl
@[simp] theorem State.leaveHandler_rngEn : s.leaveHandler.rngEn = s.rngEn := rfl
@[simp] theorem State.leaveHandler_qEn : s.leaveHandler.qEn = s.qEn := rfl
@[simp] theorem State.leaveHandler_usbEn : s.leaveHandler.usbEn = s.usbEn := rfl
@[simp] theorem State.leaveHandler_usbIrqEn : s.leaveHandler.usbIrqEn = s.usbIrqEn := rfl
@[simp] theorem State.leaveHandler_fatal : s.leaveHandler.fatal = s.fatal := rfl
@[simp] theorem State.leaveHandler_fatalCause : s.leaveHandler.fatalCause = s.fatalCause := rfl
@[simp] theorem State.leaveHandler_clk : s.leaveHandler.clk = s.clk := rfl
@[simp] theorem State.leaveHandler_keys : s.leaveHandler.keys = s.keys := rfl
@[simp] theorem State.leaveHandler_brightLevel : s.leaveHandler.brightLevel = s.brightLevel := rfl
@[simp] theorem State.leaveHandler_evtCount : s.leaveHandler.evtCount = s.evtCount := rfl
@[simp] theorem State.leaveHandler_evt : s.leaveHandler.evt = s.evt := rfl
@[simp] theorem State.leaveHandler_qMem : s.leaveHandler.qMem = s.qMem := rfl
@[simp] theorem State.leaveHandler_wptr : s.leaveHandler.wptr = s.wptr := rfl
@[simp] theorem State.leaveHandler_rptr : s.leaveHandler.rptr = s.rptr := rfl
@[simp] theorem State.leaveHandler_wsync : s.leaveHandler.wsync = s.wsync := rfl
@[simp] theorem State.leaveHandler_rsync : s.leaveHandler.rsync = s.rsync := rfl
@[simp] theorem State.leaveHandler_configured : s.leaveHandler.configured = s.configured := rfl
@[simp] theorem State.leaveHandler_ctrlPending : s.leaveHandler.ctrlPending = s.ctrlPending := rfl
@[simp] theorem State.leaveHandler_evPending : s.leaveHandler.evPending = s.evPending := rfl
@[simp] theorem State.leaveHandler_kbd : s.leaveHandler.kbd = s.kbd := rfl
@[simp] theorem State.leaveHandler_moreHid : s.leaveHandler.moreHid = s.moreHid := rfl
@[simp] theorem State.leaveHandler_renderer : s.leaveHandler.renderer = s.renderer := rfl
@[simp] theorem State.leaveHandler_kpLines : s.leaveHandler.kpLines = s.kpLines := rfl
@[simp] theorem State.leaveHandler_ledLog : s.leaveHandler.ledLog = s.ledLog := rfl
@[simp] theorem State.leaveHandler_hostLog : s.leaveHandler.hostLog = s.hostLog := rfl
@[simp] theorem State.leaveHandler_issuing : s.leaveHandler.issuing = s.issuing := rfl
@[simp] theorem State.leaveHandler_agenda : s.leaveHandler.agenda = s.agenda := rfl
@[simp] theorem State.leaveHandler_busAnswers : s.leaveHandler.busAnswers = s.busAnswers := rfl
@[simp] theorem State.leaveHandler_jitterAnswers : s.leaveHandler.jitterAnswers = s.jitterAnswers := rfl
@[simp] theorem State.leaveHandler_drawn : s.leaveHandler.drawn = s.drawn := rfl
@[simp] theorem State.leaveHandler_rdata : s.leaveHandler.rdata = s.rdata := rfl

/-! Fields under State.onPort. -/

@[simp] theorem State.onPort_cfg (p : Port) : (s.onPort p).cfg = s.cfg := rfl
@[simp] theorem State.onPort_p0 (p : Port) : (s.onPort p).p0 = s.p0 := rfl
@[simp] theorem State.onPort_p1 (p : Port) : (s.onPort p).p1 = s.p1 := rfl
@[simp] theorem State.onPort_p2 (p : Port) : (s.onPort p).p2 = s.p2 := rfl
@[simp] theorem State.onPort_clkEn (p : Port) : (s.onPort p).clkEn = s.clkEn := rfl
@[simp] theorem State.onPort_rngEn (p : Port) : (s.onPort p).rngEn = s.rngEn := rfl
@[simp] theorem State.onPort_qEn (p : Port) : (s.onPort p).qEn = s.qEn := rfl
@[simp] theorem State.onPort_usbEn (p : Port) : (s.onPort p).usbEn = s.usbEn := rfl
@[simp] theorem State.onPort_usbIrqEn (p : Port) : (s.onPort p).usbIrqEn = s.usbIrqEn := rfl
@[simp] theorem State.onPort_fatal (p : Port) : (s.onPort p).fatal = s.fatal := rfl
@[simp] theorem State.onPort_fatalCause (p : Port) : (s.onPort p).fatalCause = s.fatalCause := rfl
@[simp] theorem State.onPort_clk (p : Port) : (s.onPort p).clk = s.clk := rfl
@[simp] theorem State.onPort_keys (p : Port) : (s.onPort p).keys = s.keys := rfl
@[simp] theorem State.onPort_brightLevel (p : Port) : (s.onPort p).brightLevel = s.brightLevel := rfl
@[simp] theorem State.onPort_evtCount (p : Port) : (s.onPort p).evtCount = s.evtCount := rfl
@[simp] theorem State.onPort_evt (p : Port) : (s.onPort p).evt = s.evt := rfl
@[simp] theorem State.onPort_qMem (p : Port) : (s.onPort p).qMem = s.qMem := rfl
@[simp] theorem State.onPort_wptr (p : Port) : (s.onPort p).wptr = s.wptr := rfl
@[simp] theorem State.onPort_rptr (p : Port) : (s.onPort p).rptr = s.rptr := rfl
@[simp] theorem State.onPort_wsync (p : Port) : (s.onPort p).wsync = s.wsync := rfl
@[simp] theorem State.onPort_rsync (p : Port) : (s.onPort p).rsync = s.rsync := rfl
@[simp] theorem State.onPort_configured (p : Port) : (s.onPort p).configured = s.configured := rfl
@[simp] theorem State.onPort_ctrlPending (p : Port) : (s.onPort p).ctrlPending = s.ctrlPending := rfl
@[simp] theorem State.onPort_evPending (p : Port) : (s.onPort p).evPending = s.evPending := rfl
@[simp] theorem State.onPort_kbd (p : Port) : (s.onPort p).kbd = s.kbd := rfl
@[simp] theorem State.onPort_moreHid (p : Port) : (s.onPort p).moreHid = s.moreHid := rfl
@[simp] theorem State.onPort_handler (p : Port) : (s.onPort p).handler = s.handler := rfl
@[simp] theorem State.onPort_renderer (p : Port) : (s.onPort p).renderer = s.renderer := rfl
@[simp] theorem State.onPort_kpLines (p : Port) : (s.onPort p).kpLines = s.kpLines := rfl
@[simp] theorem State.onPort_ledLog (p : Port) : (s.onPort p).ledLog = s.ledLog := rfl
@[simp] theorem State.onPort_hostLog (p : Port) : (s.onPort p).hostLog = s.hostLog := rfl
@[simp] theorem State.onPort_agenda (p : Port) : (s.onPort p).agenda = s.agenda := rfl
@[simp] theorem State.onPort_busAnswers (p : Port) : (s.onPort p).busAnswers = s.busAnswers := rfl
@[simp] theorem State.onPort_jitterAnswers (p : Port) : (s.onPort p).jitterAnswers = s.jitterAnswers := rfl
@[simp] theorem State.onPort_drawn (p : Port) : (s.onPort p).drawn = s.drawn := rfl
@[simp] theorem State.onPort_rdata (p : Port) : (s.onPort p).rdata = s.rdata := rfl

/-! Fields under State.writeReg. -/

@[simp] theorem State.writeReg_cfg (p : Port) (r : Reg) (v : Word) : (s.writeReg p r v).cfg = s.cfg := by cases r <;> rfl
@[simp] theorem State.writeReg_clkEn (p : Port) (r : Reg) (v : Word) : (s.writeReg p r v).clkEn = s.clkEn := by cases r <;> rfl
@[simp] theorem State.writeReg_rngEn (p : Port) (r : Reg) (v : Word) : (s.writeReg p r v).rngEn = s.rngEn := by cases r <;> rfl
@[simp] theorem State.writeReg_qEn (p : Port) (r : Reg) (v : Word) : (s.writeReg p r v).qEn = s.qEn := by cases r <;> rfl
@[simp] theorem State.writeReg_usbEn (p : Port) (r : Reg) (v : Word) : (s.writeReg p r v).usbEn = s.usbEn := by cases r <;> rfl
@[simp] theorem State.writeReg_usbIrqEn (p : Port) (r : Reg) (v : Word) : (s.writeReg p r v).usbIrqEn = s.usbIrqEn := by cases r <;> rfl
@[simp] theorem State.writeReg_fatal (p : Port) (r : Reg) (v : Word) : (s.writeReg p r v).fatal = s.fatal := by cases r <;> rfl
@[simp] theorem State.writeReg_fatalCause (p : Port) (r : Reg) (v : Word) : (s.writeReg p r v).fatalCause = s.fatalCause := by cases r <;> rfl
@[simp] theorem State.writeReg_clk (p : Port) (r : Reg) (v : Word) : (s.writeReg p r v).clk = s.clk := by cases r <;> rfl
@[simp] theorem State.writeReg_keys (p : Port) (r : Reg) (v : Word) : (s.writeReg p r v).keys = s.keys := by cases r <;> rfl
@[simp] theorem State.writeReg_brightLevel (p : Port) (r : Reg) (v : Word) : (s.writeReg p r v).brightLevel = s.brightLevel := by cases r <;> rfl
@[simp] theorem State.writeReg_evtCount (p : Port) (r : Reg) (v : Word) : (s.writeReg p r v).evtCount = s.evtCount := by cases r <;> rfl
@[simp] theorem State.writeReg_evt (p : Port) (r : Reg) (v : Word) : (s.writeReg p r v).evt = s.evt := by cases r <;> rfl
@[simp] theorem State.writeReg_qMem (p : Port) (r : Reg) (v : Word) : (s.writeReg p r v).qMem = s.qMem := by cases r <;> rfl
@[simp] theorem State.writeReg_wptr (p : Port) (r : Reg) (v : Word) : (s.writeReg p r v).wptr = s.wptr := by cases r <;> rfl
@[simp] theorem State.writeReg_rptr (p : Port) (r : Reg) (v : Word) : (s.writeReg p r v).rptr = s.rptr := by cases r <;> rfl
@[simp] theorem State.writeReg_wsync (p : Port) (r : Reg) (v : Word) : (s.writeReg p r v).wsync = s.wsync := by cases r <;> rfl
@[simp] theorem State.writeReg_rsync (p : Port) (r : Reg) (v : Word) : (s.writeReg p r v).rsync = s.rsync := by cases r <;> rfl
@[simp] theorem State.writeReg_configured (p : Port) (r : Reg) (v : Word) : (s.writeReg p r v).configured = s.configured := by cases r <;> rfl
@[simp] theorem State.writeReg_ctrlPending (p : Port) (r : Reg) (v : Word) : (s.writeReg p r v).ctrlPending = s.ctrlPending := by cases r <;> rfl
@[simp] theorem State.writeReg_evPending (p : Port) (r : Reg) (v : Word) : (s.writeReg p r v).evPending = s.evPending := by cases r <;> rfl
@[simp] theorem State.writeReg_kbd (p : Port) (r : Reg) (v : Word) : (s.writeReg p r v).kbd = s.kbd := by cases r <;> rfl
@[simp] theorem State.writeReg_moreHid (p : Port) (r : Reg) (v : Word) : (s.writeReg p r v).moreHid = s.moreHid := by cases r <;> rfl
@[simp] theorem State.writeReg_handler (p : Port) (r : Reg) (v : Word) : (s.writeReg p r v).handler = s.handler := by cases r <;> rfl
@[simp] theorem State.writeReg_renderer (p : Port) (r : Reg) (v : Word) : (s.writeReg p r v).renderer = s.renderer := by cases r <;> rfl
@[simp] theorem State.writeReg_kpLines (p : Port) (r : Reg) (v : Word) : (s.writeReg p r v).kpLines = s.kpLines := by cases r <;> rfl
@[simp] theorem State.writeReg_ledLog (p : Port) (r : Reg) (v : Word) : (s.writeReg p r v).ledLog = s.ledLog := by cases r <;> rfl
@[simp] theorem State.writeReg_hostLog (p : Port) (r : Reg) (v : Word) : (s.writeReg p r v).hostLog = s.hostLog := by cases r <;> rfl
@[simp] theorem State.writeReg_issuing (p : Port) (r : Reg) (v : Word) : (s.writeReg p r v).issuing = s.issuing := by cases r <;> rfl
@[simp] theorem State.writeReg_agenda (p : Port) (r : Reg) (v : Word) : (s.writeReg p r v).agenda = s.agenda := by cases r <;> rfl
@[simp] theorem State.writeReg_busAnswers (p : Port) (r : Reg) (v : Word) : (s.writeReg p r v).busAnswers = s.busAnswers := by cases r <;> rfl
@[simp] theorem State.writeReg_jitterAnswers (p : Port) (r : Reg) (v : Word) : (s.writeReg p r v).jitterAnswers = s.jitterAnswers := by cases r <;> rfl
@[simp] theorem State.writeReg_drawn (p : Port) (r : Reg) (v : Word) : (s.writeReg p r v).drawn = s.drawn := by cases r <;> rfl
@[simp] theorem State.writeReg_rdata (p : Port) (r : Reg) (v : Word) : (s.writeReg p r v).rdata = s.rdata := by cases r <;> rfl

/-! Fields under State.noteRole. -/

@[simp] theorem State.noteRole_cfg (c : Port) (w : Option Word) : (s.noteRole c w).cfg = s.cfg := by cases w <;> cases c <;> rfl
@[simp] theorem State.noteRole_p0 (c : Port) (w : Option Word) : (s.noteRole c w).p0 = s.p0 := by cases w <;> cases c <;> rfl
@[simp] theorem State.noteRole_p1 (c : Port) (w : Option Word) : (s.noteRole c w).p1 = s.p1 := by cases w <;> cases c <;> rfl
@[simp] theorem State.noteRole_p2 (c : Port) (w : Option Word) : (s.noteRole c w).p2 = s.p2 := by cases w <;> cases c <;> rfl
@[simp] theorem State.noteRole_clkEn (c : Port) (w : Option Word) : (s.noteRole c w).clkEn = s.clkEn := by cases w <;> cases c <;> rfl
@[simp] theorem State.noteRole_rngEn (c : Port) (w : Option Word) : (s.noteRole c w).rngEn = s.rngEn := by cases w <;> cases c <;> rfl
@[simp] theorem State.noteRole_qEn (c : Port) (w : Option Word) : (s.noteRole c w).qEn = s.qEn := by cases w <;> cases c <;> rfl
@[simp] theorem State.noteRole_usbEn (c : Port) (w : Option Word) : (s.noteRole c w).usbEn = s.usbEn := by cases w <;> cases c <;> rfl
@[simp] theorem State.noteRole_usbIrqEn (c : Port) (w : Option Word) : (s.noteRole c w).usbIrqEn = s.usbIrqEn := by cases w <;> cases c <;> rfl
@[simp] theorem State.noteRole_fatal (c : Port) (w : Option Word) : (s.noteRole c w).fatal = s.fatal := by cases w <;> cases c <;> rfl
@[simp] theorem State.noteRole_fatalCause (c : Port) (w : Option Word) : (s.noteRole c w).fatalCause = s.fatalCause := by cases w <;> cases c <;> rfl
@[simp] theorem State.noteRole_clk (c : Port) (w : Option Word) : (s.noteRole c w).clk = s.clk := by cases w <;> cases c <;> rfl
@[simp] theorem State.noteRole_keys (c : Port) (w : Option Word) : (s.noteRole c w).keys = s.keys := by cases w <;> cases c <;> rfl
@[simp] theorem State.noteRole_brightLevel (c : Port) (w : Option Word) : (s.noteRole c w).brightLevel = s.brightLevel := by cases w <;> cases c <;> rfl
@[simp] theorem State.noteRole_evtCount (c : Port) (w : Option Word) : (s.noteRole c w).evtCount = s.evtCount := by cases w <;> cases c <;> rfl
@[simp] theorem State.noteRole_evt (c : Port) (w : Option Word) : (s.noteRole c w).evt = s.evt := by cases w <;> cases c <;> rfl
@[simp] theorem State.noteRole_qMem (c : Port) (w : Option Word) : (s.noteRole c w).qMem = s.qMem := by cases w <;> cases c <;> rfl
@[simp] theorem State.noteRole_wptr (c : Port) (w : Option Word) : (s.noteRole c w).wptr = s.wptr := by cases w <;> cases c <;> rfl
@[simp] theorem State.noteRole_rptr (c : Port) (w : Option Word) : (s.noteRole c w).rptr = s.rptr := by cases w <;> cases c <;> rfl
@[simp] theorem State.noteRole_wsync (c : Port) (w : Option Word) : (s.noteRole c w).wsync = s.wsync := by cases w <;> cases c <;> rfl
@[simp] theorem State.noteRole_rsync (c : Port) (w : Option Word) : (s.noteRole c w).rsync = s.rsync := by cases w <;> cases c <;> rfl
@[simp] theorem State.noteRole_configured (c : Port) (w : Option Word) : (s.noteRole c w).configured = s.configured := by cases w <;> cases c <;> rfl
@[simp] theorem State.noteRole_ctrlPending (c : Port) (w : Option Word) : (s.noteRole c w).ctrlPending = s.ctrlPending := by cases w <;> cases c <;> rfl
@[simp] theorem State.noteRole_evPending (c : Port) (w : Option Word) : (s.noteRole c w).evPending = s.evPending := by cases w <;> cases c <;> rfl
@[simp] theorem State.noteRole_kbd (c : Port) (w : Option Word) : (s.noteRole c w).kbd = s.kbd := by cases w <;> cases c <;> rfl
@[simp] theorem State.noteRole_moreHid (c : Port) (w : Option Word) : (s.noteRole c w).moreHid = s.moreHid := by cases w <;> cases c <;> rfl
@[simp] theorem State.noteRole_kpLines (c : Port) (w : Option Word) : (s.noteRole c w).kpLines = s.kpLines := by cases w <;> cases c <;> rfl
@[simp] theorem State.noteRole_ledLog (c : Port) (w : Option Word) : (s.noteRole c w).ledLog = s.ledLog := by cases w <;> cases c <;> rfl
@[simp] theorem State.noteRole_hostLog (c : Port) (w : Option Word) : (s.noteRole c w).hostLog = s.hostLog := by cases w <;> cases c <;> rfl
@[simp] theorem State.noteRole_issuing (c : Port) (w : Option Word) : (s.noteRole c w).issuing = s.issuing := by cases w <;> cases c <;> rfl
@[simp] theorem State.noteRole_agenda (c : Port) (w : Option Word) : (s.noteRole c w).agenda = s.agenda := by cases w <;> cases c <;> rfl
@[simp] theorem State.noteRole_busAnswers (c : Port) (w : Option Word) : (s.noteRole c w).busAnswers = s.busAnswers := by cases w <;> cases c <;> rfl
@[simp] theorem State.noteRole_jitterAnswers (c : Port) (w : Option Word) : (s.noteRole c w).jitterAnswers = s.jitterAnswers := by cases w <;> cases c <;> rfl
@[simp] theorem State.noteRole_drawn (c : Port) (w : Option Word) : (s.noteRole c w).drawn = s.drawn := by cases w <;> cases c <;> rfl
@[simp] theorem State.noteRole_rdata (c : Port) (w : Option Word) : (s.noteRole c w).rdata = s.rdata := by cases w <;> cases c <;> rfl

/-! Fields under State.tick. -/

@[simp] theorem State.tick_cfg : s.tick.cfg = s.cfg := by unfold State.tick; split <;> rfl
@[simp] theorem State.tick_p0 : s.tick.p0 = s.p0 := by unfold State.tick; split <;> rfl
@[simp] theorem State.tick_p1 : s.tick.p1 = s.p1 := by unfold State.tick; split <;> rfl
@[simp] theorem State.tick_p2 : s.tick.p2 = s.p2 := by unfold State.tick; split <;> rfl
@[simp] theorem State.tick_clkEn : s.tick.clkEn = s.clkEn := by unfold State.tick; split <;> rfl
@[simp] theorem State.tick_rngEn : s.tick.rngEn = s.rngEn := by unfold State.tick; split <;> rfl
@[simp] theorem State.tick_qEn : s.tick.qEn = s.qEn := by unfold State.tick; split <;> rfl
@[simp] theorem State.tick_usbEn : s.tick.usbEn = s.usbEn := by unfold State.tick; split <;> rfl
@[simp] theorem State.tick_usbIrqEn : s.tick.usbIrqEn = s.usbIrqEn := by unfold State.tick; split <;> rfl
@[simp] theorem State.tick_fatal : s.tick.fatal = s.fatal := by unfold State.tick; split <;> rfl
@[simp] theorem State.tick_fatalCause : s.tick.fatalCause = s.fatalCause := by unfold State.tick; split <;> rfl
@[simp] theorem State.tick_keys : s.tick.keys = s.keys := by unfold State.tick; split <;> rfl
@[simp] theorem State.tick_brightLevel : s.tick.brightLevel = s.brightLevel := by unfold State.tick; split <;> rfl
@[simp] theorem State.tick_evtCount : s.tick.evtCount = s.evtCount := by unfold State.tick; split <;> rfl
@[simp] theorem State.tick_evt : s.tick.evt = s.evt := by unfold State.tick; split <;> rfl
@[simp] theorem State.tick_qMem : s.tick.qMem = s.qMem := by unfold State.tick; split <;> rfl
@[simp] theorem State.tick_wptr : s.tick.wptr = s.wptr := by unfold State.tick; split <;> rfl
@[simp] theorem State.tick_rptr : s.tick.rptr = s.rptr := by unfold State.tick; split <;> rfl
@[simp] theorem State.tick_wsync : s.tick.wsync = s.wsync := by unfold State.tick; split <;> rfl
@[simp] theorem State.tick_rsync : s.tick.rsync = s.rsync := by unfold State.tick; split <;> rfl
@[simp] theorem State.tick_configured : s.tick.configured = s.configured := by unfold State.tick; split <;> rfl
@[simp] theorem State.tick_ctrlPending : s.tick.ctrlPending = s.ctrlPending := by unfold State.tick; split <;> rfl
@[simp] theorem State.tick_evPending : s.tick.evPending = s.evPending := by unfold State.tick; split <;> rfl
@[simp] theorem State.tick_kbd : s.tick.kbd = s.kbd := by unfold State.tick; split <;> rfl
@[simp] theorem State.tick_moreHid : s.tick.moreHid = s.moreHid := by unfold State.tick; split <;> rfl
@[simp] theorem State.tick_handler : s.tick.handler = s.handler := by unfold State.tick; split <;> rfl
@[simp] theorem State.tick_renderer : s.tick.renderer = s.renderer := by unfold State.tick; split <;> rfl
@[simp] theorem State.tick_kpLines : s.tick.kpLines = s.kpLines := by unfold State.tick; split <;> rfl
@[simp] theorem State.tick_ledLog : s.tick.ledLog = s.ledLog := by unfold State.tick; split <;> rfl
@[simp] theorem State.tick_hostLog : s.tick.hostLog = s.hostLog := by unfold State.tick; split <;> rfl
@[simp] theorem State.tick_issuing : s.tick.issuing = s.issuing := by unfold State.tick; split <;> rfl
@[simp] theorem State.tick_agenda : s.tick.agenda = s.agenda := by unfold State.tick; split <;> rfl
@[simp] theorem State.tick_busAnswers : s.tick.busAnswers = s.busAnswers := by unfold State.tick; split <;> rfl
@[simp] theorem State.tick_jitterAnswers : s.tick.jitterAnswers = s.jitterAnswers := by unfold State.tick; split <;> rfl
@[simp] theorem State.tick_drawn : s.tick.drawn = s.drawn := by unfold State.tick; split <;> rfl
@[simp] theorem State.tick_rdata : s.tick.rdata = s.rdata := by unfold State.tick; split <;> rfl

/-! The ports under State.setPort. -/

@[simp] theorem State.onPort_issuing (p : Port) : (s.onPort p).issuing = p := rfl

@[simp] theorem State.port_onPort (p q : Port) : (s.onPort p).port q = s.port q := by
  cases q <;> rfl

@[simp] theorem State.port_setPort_self (p : Port) (r : PortRegs) : (s.setPort p r).port p = r := by
  cases p <;> rfl

theorem State.port_setPort_of_ne {p q : Port} (h : q ≠ p) (r : PortRegs) :
    (s.setPort p r).port q = s.port q := by
  cases p <;> cases q <;> first | rfl | exact absurd rfl h

@[simp] theorem State.setPort_setPort (p : Port) (r r' : PortRegs) :
    (s.setPort p r).setPort p r' = s.setPort p r' := by
  cases p <;> rfl

@[simp] theorem State.setPort_port (p : Port) : s.setPort p (s.port p) = s := by
  cases p <;> rfl

/-! The chained writes of one port are one write of that port. -/

@[simp] theorem State.port_setResult :
    ∀ c, (s.setResult c).port s.issuing = { s.port s.issuing with result := c } :=
  fun _ => State.port_setPort_self _ _ _

@[simp] theorem State.raiseFatal_fatal (c : BitVec 8) : (s.raiseFatal c).fatal = true := rfl

@[simp] theorem State.raiseFatal_fatalCause (c : BitVec 8) :
    (s.raiseFatal c).fatalCause = if s.fatal then s.fatalCause else c := rfl

@[simp] theorem State.emit_evtCount (i : Fin 16) (k : EventKind) :
    (s.emit i k).evtCount = s.evtCount + 1 := rfl

@[simp] theorem State.emit_evt (i : Fin 16) (k : EventKind) :
    (s.emit i k).evt = s.evt.setIfInBounds s.evtCount (eventWord i k) := rfl

@[simp] theorem State.setKey_keys (i : Fin 16) (k : Key) :
    (s.setKey i k).keys = s.keys.set i.val k := rfl

@[simp] theorem State.logLed_ledLog (x : LedSend) : (s.logLed x).ledLog = s.ledLog ++ [x] := rfl

/-! A port that is not the issuing one keeps its registers. -/

theorem State.setResult_port_ne (c : Result) {q : Port} (h : q ≠ s.issuing) :
    (s.setResult c).port q = s.port q :=
  State.port_setPort_of_ne s h _

theorem State.setResp0_port_ne (c : Word) {q : Port} (h : q ≠ s.issuing) :
    (s.setResp0 c).port q = s.port q :=
  State.port_setPort_of_ne s h _

theorem State.setResp1_port_ne (c : Word) {q : Port} (h : q ≠ s.issuing) :
    (s.setResp1 c).port q = s.port q :=
  State.port_setPort_of_ne s h _

theorem State.setResp2_port_ne (c : Word) {q : Port} (h : q ≠ s.issuing) :
    (s.setResp2 c).port q = s.port q :=
  State.port_setPort_of_ne s h _

theorem State.setBuf_port_ne (c : Entry) {q : Port} (h : q ≠ s.issuing) :
    (s.setBuf c).port q = s.port q :=
  State.port_setPort_of_ne s h _

theorem State.raiseFatal_port_ne (c : BitVec 8) {q : Port} (h : q ≠ s.issuing) :
    (s.raiseFatal c).port q = s.port q := by
  have h2 := Ne.symm h
  cases q <;> simp_all [State.raiseFatal, State.setResult, State.setPort, State.port]

theorem State.port_congr {s t : State} (h0 : t.p0 = s.p0) (h1 : t.p1 = s.p1) (h2 : t.p2 = s.p2)
    (q : Port) : t.port q = s.port q := by
  cases q <;> assumption

end Sys2Proof.Machine
end

