-- ==== Sys2Proof/Laws/Ops.lean ====
section
/-!
SUPPORT. What the shared operations can do: the front end, the oracles, the scanner's loop and the
colour broadcast, each said once.
-/

namespace Sys2Proof.Machine

variable (s : State)

/-! The front end. -/

/-- What the front end can do: the three ways it ends an operation, and the operation's own rule. -/
theorem frontEnd_cases (runsFatal permitted : Bool) (rule : State → State) (P : State → Prop)
    (hFatal : s.fatal = true → runsFatal = false → P (s.setResult .errFatal))
    (hEarly : s.startsTooEarly = true → (s.fatal = true → runsFatal = true) →
      P (s.raiseFatal causeStartupOrder))
    (hIllegal : permitted = false → s.startsTooEarly = false → (s.fatal = true → runsFatal = true) →
      P (s.setResult .errIllegal))
    (hRule : permitted = true → s.startsTooEarly = false → (s.fatal = true → runsFatal = true) →
      P (rule s)) :
    P (frontEnd runsFatal permitted rule s) := by
  unfold frontEnd
  cases hf : s.fatal <;> cases hr : runsFatal <;> cases he : s.startsTooEarly <;>
    cases hp : permitted <;> simp_all

/-! The oracles change nothing but their own answers. -/

theorem State.busAsked_issuing_port (p : Port) : s.busAsked.port p = s.port p := by
  cases p <;> simp [State.port]

theorem State.jitterAsked_issuing_port (p : Port) : s.jitterAsked.port p = s.port p := by
  cases p <;> simp [State.port]

@[simp] theorem State.logLed_busAnswer (x : LedSend) : (s.logLed x).busAnswer = s.busAnswer := rfl

@[simp] theorem State.clearEvents_busAnswer : s.clearEvents.busAnswer = s.busAnswer := rfl

@[simp] theorem State.clearEvents_evtCount : s.clearEvents.evtCount = 0 := rfl

theorem State.logLed_busAsked (x : LedSend) : (s.logLed x).busAsked = s.busAsked.logLed x := by
  cases h : s.busAnswers <;> simp [State.busAsked, State.logLed, h]

theorem State.clearEvents_busAsked : s.clearEvents.busAsked = s.busAsked.clearEvents := by
  cases h : s.busAnswers <;> simp [State.busAsked, State.clearEvents, h]

/-- JITTER's answer is in its range, whatever it draws (R93). -/
theorem State.jitterAnswer_range (lo hi : Word) (h : lo < hi) :
    lo ≤ s.jitterAnswer lo hi ∧ s.jitterAnswer lo hi < hi := by
  have h1 : lo.toNat < hi.toNat := h
  have h2 : (hi - lo).toNat = hi.toNat - lo.toNat := by
    rw [BitVec.toNat_sub]; have := hi.isLt; have := lo.isLt; omega
  have h3 : s.jitterRaw.toNat % (hi - lo).toNat < (hi - lo).toNat := Nat.mod_lt _ (by omega)
  have h4 : (s.jitterAnswer lo hi).toNat = lo.toNat + s.jitterRaw.toNat % (hi - lo).toNat := by
    simp only [State.jitterAnswer, BitVec.toNat_add, BitVec.toNat_umod]
    have := hi.isLt
    exact Nat.mod_eq_of_lt (by omega)
  constructor
  · show lo.toNat ≤ _; omega
  · show _ < hi.toNat; omega

/-! The scanner's loop and the colour broadcast touch the key array and the event list alone. -/

theorem State.foldl_keeps {α β : Type} (f : State → α) (g : State → β → State)
    (h : ∀ t b, f (g t b) = f t) (l : List β) (s : State) : f (l.foldl g s) = f s := by
  induction l generalizing s with
  | nil => rfl
  | cons b l ih => rw [List.foldl_cons, ih, h]

@[simp] theorem State.emitOpt_cfg (i : Fin 16) (k : Option EventKind) :
    (s.emitOpt i k).cfg = s.cfg := by cases k <;> rfl
@[simp] theorem State.scanKey_cfg (d : BitVec 16) (n : BitVec 64) (i : Fin 16) :
    (s.scanKey d n i).cfg = s.cfg := by simp [State.scanKey]
@[simp] theorem State.scanKeys_cfg (d : BitVec 16) (n : BitVec 64) :
    (s.scanKeys d n).cfg = s.cfg :=
  State.foldl_keeps (·.cfg) _ (fun t i => by simp) _ _
@[simp] theorem State.emitOpt_p0 (i : Fin 16) (k : Option EventKind) :
    (s.emitOpt i k).p0 = s.p0 := by cases k <;> rfl
@[simp] theorem State.scanKey_p0 (d : BitVec 16) (n : BitVec 64) (i : Fin 16) :
    (s.scanKey d n i).p0 = s.p0 := by simp [State.scanKey]
@[simp] theorem State.scanKeys_p0 (d : BitVec 16) (n : BitVec 64) :
    (s.scanKeys d n).p0 = s.p0 :=
  State.foldl_keeps (·.p0) _ (fun t i => by simp) _ _
@[simp] theorem State.emitOpt_p1 (i : Fin 16) (k : Option EventKind) :
    (s.emitOpt i k).p1 = s.p1 := by cases k <;> rfl
@[simp] theorem State.scanKey_p1 (d : BitVec 16) (n : BitVec 64) (i : Fin 16) :
    (s.scanKey d n i).p1 = s.p1 := by simp [State.scanKey]
@[simp] theorem State.scanKeys_p1 (d : BitVec 16) (n : BitVec 64) :
    (s.scanKeys d n).p1 = s.p1 :=
  State.foldl_keeps (·.p1) _ (fun t i => by simp) _ _
@[simp] theorem State.emitOpt_p2 (i : Fin 16) (k : Option EventKind) :
    (s.emitOpt i k).p2 = s.p2 := by cases k <;> rfl
@[simp] theorem State.scanKey_p2 (d : BitVec 16) (n : BitVec 64) (i : Fin 16) :
    (s.scanKey d n i).p2 = s.p2 := by simp [State.scanKey]
@[simp] theorem State.scanKeys_p2 (d : BitVec 16) (n : BitVec 64) :
    (s.scanKeys d n).p2 = s.p2 :=
  State.foldl_keeps (·.p2) _ (fun t i => by simp) _ _
@[simp] theorem State.emitOpt_clkEn (i : Fin 16) (k : Option EventKind) :
    (s.emitOpt i k).clkEn = s.clkEn := by cases k <;> rfl
@[simp] theorem State.scanKey_clkEn (d : BitVec 16) (n : BitVec 64) (i : Fin 16) :
    (s.scanKey d n i).clkEn = s.clkEn := by simp [State.scanKey]
@[simp] theorem State.scanKeys_clkEn (d : BitVec 16) (n : BitVec 64) :
    (s.scanKeys d n).clkEn = s.clkEn :=
  State.foldl_keeps (·.clkEn) _ (fun t i => by simp) _ _
@[simp] theorem State.emitOpt_rngEn (i : Fin 16) (k : Option EventKind) :
    (s.emitOpt i k).rngEn = s.rngEn := by cases k <;> rfl
@[simp] theorem State.scanKey_rngEn (d : BitVec 16) (n : BitVec 64) (i : Fin 16) :
    (s.scanKey d n i).rngEn = s.rngEn := by simp [State.scanKey]
@[simp] theorem State.scanKeys_rngEn (d : BitVec 16) (n : BitVec 64) :
    (s.scanKeys d n).rngEn = s.rngEn :=
  State.foldl_keeps (·.rngEn) _ (fun t i => by simp) _ _
@[simp] theorem State.emitOpt_qEn (i : Fin 16) (k : Option EventKind) :
    (s.emitOpt i k).qEn = s.qEn := by cases k <;> rfl
@[simp] theorem State.scanKey_qEn (d : BitVec 16) (n : BitVec 64) (i : Fin 16) :
    (s.scanKey d n i).qEn = s.qEn := by simp [State.scanKey]
@[simp] theorem State.scanKeys_qEn (d : BitVec 16) (n : BitVec 64) :
    (s.scanKeys d n).qEn = s.qEn :=
  State.foldl_keeps (·.qEn) _ (fun t i => by simp) _ _
@[simp] theorem State.emitOpt_usbEn (i : Fin 16) (k : Option EventKind) :
    (s.emitOpt i k).usbEn = s.usbEn := by cases k <;> rfl
@[simp] theorem State.scanKey_usbEn (d : BitVec 16) (n : BitVec 64) (i : Fin 16) :
    (s.scanKey d n i).usbEn = s.usbEn := by simp [State.scanKey]
@[simp] theorem State.scanKeys_usbEn (d : BitVec 16) (n : BitVec 64) :
    (s.scanKeys d n).usbEn = s.usbEn :=
  State.foldl_keeps (·.usbEn) _ (fun t i => by simp) _ _
@[simp] theorem State.emitOpt_usbIrqEn (i : Fin 16) (k : Option EventKind) :
    (s.emitOpt i k).usbIrqEn = s.usbIrqEn := by cases k <;> rfl
@[simp] theorem State.scanKey_usbIrqEn (d : BitVec 16) (n : BitVec 64) (i : Fin 16) :
    (s.scanKey d n i).usbIrqEn = s.usbIrqEn := by simp [State.scanKey]
@[simp] theorem State.scanKeys_usbIrqEn (d : BitVec 16) (n : BitVec 64) :
    (s.scanKeys d n).usbIrqEn = s.usbIrqEn :=
  State.foldl_keeps (·.usbIrqEn) _ (fun t i => by simp) _ _
@[simp] theorem State.emitOpt_fatal (i : Fin 16) (k : Option EventKind) :
    (s.emitOpt i k).fatal = s.fatal := by cases k <;> rfl
@[simp] theorem State.scanKey_fatal (d : BitVec 16) (n : BitVec 64) (i : Fin 16) :
    (s.scanKey d n i).fatal = s.fatal := by simp [State.scanKey]
@[simp] theorem State.scanKeys_fatal (d : BitVec 16) (n : BitVec 64) :
    (s.scanKeys d n).fatal = s.fatal :=
  State.foldl_keeps (·.fatal) _ (fun t i => by simp) _ _
@[simp] theorem State.emitOpt_fatalCause (i : Fin 16) (k : Option EventKind) :
    (s.emitOpt i k).fatalCause = s.fatalCause := by cases k <;> rfl
@[simp] theorem State.scanKey_fatalCause (d : BitVec 16) (n : BitVec 64) (i : Fin 16) :
    (s.scanKey d n i).fatalCause = s.fatalCause := by simp [State.scanKey]
@[simp] theorem State.scanKeys_fatalCause (d : BitVec 16) (n : BitVec 64) :
    (s.scanKeys d n).fatalCause = s.fatalCause :=
  State.foldl_keeps (·.fatalCause) _ (fun t i => by simp) _ _
@[simp] theorem State.emitOpt_clk (i : Fin 16) (k : Option EventKind) :
    (s.emitOpt i k).clk = s.clk := by cases k <;> rfl
@[simp] theorem State.scanKey_clk (d : BitVec 16) (n : BitVec 64) (i : Fin 16) :
    (s.scanKey d n i).clk = s.clk := by simp [State.scanKey]
@[simp] theorem State.scanKeys_clk (d : BitVec 16) (n : BitVec 64) :
    (s.scanKeys d n).clk = s.clk :=
  State.foldl_keeps (·.clk) _ (fun t i => by simp) _ _
@[simp] theorem State.emitOpt_brightLevel (i : Fin 16) (k : Option EventKind) :
    (s.emitOpt i k).brightLevel = s.brightLevel := by cases k <;> rfl
@[simp] theorem State.scanKey_brightLevel (d : BitVec 16) (n : BitVec 64) (i : Fin 16) :
    (s.scanKey d n i).brightLevel = s.brightLevel := by simp [State.scanKey]
@[simp] theorem State.scanKeys_brightLevel (d : BitVec 16) (n : BitVec 64) :
    (s.scanKeys d n).brightLevel = s.brightLevel :=
  State.foldl_keeps (·.brightLevel) _ (fun t i => by simp) _ _
@[simp] theorem State.emitOpt_qMem (i : Fin 16) (k : Option EventKind) :
    (s.emitOpt i k).qMem = s.qMem := by cases k <;> rfl
@[simp] theorem State.scanKey_qMem (d : BitVec 16) (n : BitVec 64) (i : Fin 16) :
    (s.scanKey d n i).qMem = s.qMem := by simp [State.scanKey]
@[simp] theorem State.scanKeys_qMem (d : BitVec 16) (n : BitVec 64) :
    (s.scanKeys d n).qMem = s.qMem :=
  State.foldl_keeps (·.qMem) _ (fun t i => by simp) _ _
@[simp] theorem State.emitOpt_wptr (i : Fin 16) (k : Option EventKind) :
    (s.emitOpt i k).wptr = s.wptr := by cases k <;> rfl
@[simp] theorem State.scanKey_wptr (d : BitVec 16) (n : BitVec 64) (i : Fin 16) :
    (s.scanKey d n i).wptr = s.wptr := by simp [State.scanKey]
@[simp] theorem State.scanKeys_wptr (d : BitVec 16) (n : BitVec 64) :
    (s.scanKeys d n).wptr = s.wptr :=
  State.foldl_keeps (·.wptr) _ (fun t i => by simp) _ _
@[simp] theorem State.emitOpt_rptr (i : Fin 16) (k : Option EventKind) :
    (s.emitOpt i k).rptr = s.rptr := by cases k <;> rfl
@[simp] theorem State.scanKey_rptr (d : BitVec 16) (n : BitVec 64) (i : Fin 16) :
    (s.scanKey d n i).rptr = s.rptr := by simp [State.scanKey]
@[simp] theorem State.scanKeys_rptr (d : BitVec 16) (n : BitVec 64) :
    (s.scanKeys d n).rptr = s.rptr :=
  State.foldl_keeps (·.rptr) _ (fun t i => by simp) _ _
@[simp] theorem State.emitOpt_wsync (i : Fin 16) (k : Option EventKind) :
    (s.emitOpt i k).wsync = s.wsync := by cases k <;> rfl
@[simp] theorem State.scanKey_wsync (d : BitVec 16) (n : BitVec 64) (i : Fin 16) :
    (s.scanKey d n i).wsync = s.wsync := by simp [State.scanKey]
@[simp] theorem State.scanKeys_wsync (d : BitVec 16) (n : BitVec 64) :
    (s.scanKeys d n).wsync = s.wsync :=
  State.foldl_keeps (·.wsync) _ (fun t i => by simp) _ _
@[simp] theorem State.emitOpt_rsync (i : Fin 16) (k : Option EventKind) :
    (s.emitOpt i k).rsync = s.rsync := by cases k <;> rfl
@[simp] theorem State.scanKey_rsync (d : BitVec 16) (n : BitVec 64) (i : Fin 16) :
    (s.scanKey d n i).rsync = s.rsync := by simp [State.scanKey]
@[simp] theorem State.scanKeys_rsync (d : BitVec 16) (n : BitVec 64) :
    (s.scanKeys d n).rsync = s.rsync :=
  State.foldl_keeps (·.rsync) _ (fun t i => by simp) _ _
@[simp] theorem State.emitOpt_configured (i : Fin 16) (k : Option EventKind) :
    (s.emitOpt i k).configured = s.configured := by cases k <;> rfl
@[simp] theorem State.scanKey_configured (d : BitVec 16) (n : BitVec 64) (i : Fin 16) :
    (s.scanKey d n i).configured = s.configured := by simp [State.scanKey]
@[simp] theorem State.scanKeys_configured (d : BitVec 16) (n : BitVec 64) :
    (s.scanKeys d n).configured = s.configured :=
  State.foldl_keeps (·.configured) _ (fun t i => by simp) _ _
@[simp] theorem State.emitOpt_ctrlPending (i : Fin 16) (k : Option EventKind) :
    (s.emitOpt i k).ctrlPending = s.ctrlPending := by cases k <;> rfl
@[simp] theorem State.scanKey_ctrlPending (d : BitVec 16) (n : BitVec 64) (i : Fin 16) :
    (s.scanKey d n i).ctrlPending = s.ctrlPending := by simp [State.scanKey]
@[simp] theorem State.scanKeys_ctrlPending (d : BitVec 16) (n : BitVec 64) :
    (s.scanKeys d n).ctrlPending = s.ctrlPending :=
  State.foldl_keeps (·.ctrlPending) _ (fun t i => by simp) _ _
@[simp] theorem State.emitOpt_evPending (i : Fin 16) (k : Option EventKind) :
    (s.emitOpt i k).evPending = s.evPending := by cases k <;> rfl
@[simp] theorem State.scanKey_evPending (d : BitVec 16) (n : BitVec 64) (i : Fin 16) :
    (s.scanKey d n i).evPending = s.evPending := by simp [State.scanKey]
@[simp] theorem State.scanKeys_evPending (d : BitVec 16) (n : BitVec 64) :
    (s.scanKeys d n).evPending = s.evPending :=
  State.foldl_keeps (·.evPending) _ (fun t i => by simp) _ _
@[simp] theorem State.emitOpt_kbd (i : Fin 16) (k : Option EventKind) :
    (s.emitOpt i k).kbd = s.kbd := by cases k <;> rfl
@[simp] theorem State.scanKey_kbd (d : BitVec 16) (n : BitVec 64) (i : Fin 16) :
    (s.scanKey d n i).kbd = s.kbd := by simp [State.scanKey]
@[simp] theorem State.scanKeys_kbd (d : BitVec 16) (n : BitVec 64) :
    (s.scanKeys d n).kbd = s.kbd :=
  State.foldl_keeps (·.kbd) _ (fun t i => by simp) _ _
@[simp] theorem State.emitOpt_moreHid (i : Fin 16) (k : Option EventKind) :
    (s.emitOpt i k).moreHid = s.moreHid := by cases k <;> rfl
@[simp] theorem State.scanKey_moreHid (d : BitVec 16) (n : BitVec 64) (i : Fin 16) :
    (s.scanKey d n i).moreHid = s.moreHid := by simp [State.scanKey]
@[simp] theorem State.scanKeys_moreHid (d : BitVec 16) (n : BitVec 64) :
    (s.scanKeys d n).moreHid = s.moreHid :=
  State.foldl_keeps (·.moreHid) _ (fun t i => by simp) _ _
@[simp] theorem State.emitOpt_handler (i : Fin 16) (k : Option EventKind) :
    (s.emitOpt i k).handler = s.handler := by cases k <;> rfl
@[simp] theorem State.scanKey_handler (d : BitVec 16) (n : BitVec 64) (i : Fin 16) :
    (s.scanKey d n i).handler = s.handler := by simp [State.scanKey]
@[simp] theorem State.scanKeys_handler (d : BitVec 16) (n : BitVec 64) :
    (s.scanKeys d n).handler = s.handler :=
  State.foldl_keeps (·.handler) _ (fun t i => by simp) _ _
@[simp] theorem State.emitOpt_renderer (i : Fin 16) (k : Option EventKind) :
    (s.emitOpt i k).renderer = s.renderer := by cases k <;> rfl
@[simp] theorem State.scanKey_renderer (d : BitVec 16) (n : BitVec 64) (i : Fin 16) :
    (s.scanKey d n i).renderer = s.renderer := by simp [State.scanKey]
@[simp] theorem State.scanKeys_renderer (d : BitVec 16) (n : BitVec 64) :
    (s.scanKeys d n).renderer = s.renderer :=
  State.foldl_keeps (·.renderer) _ (fun t i => by simp) _ _
@[simp] theorem State.emitOpt_kpLines (i : Fin 16) (k : Option EventKind) :
    (s.emitOpt i k).kpLines = s.kpLines := by cases k <;> rfl
@[simp] theorem State.scanKey_kpLines (d : BitVec 16) (n : BitVec 64) (i : Fin 16) :
    (s.scanKey d n i).kpLines = s.kpLines := by simp [State.scanKey]
@[simp] theorem State.scanKeys_kpLines (d : BitVec 16) (n : BitVec 64) :
    (s.scanKeys d n).kpLines = s.kpLines :=
  State.foldl_keeps (·.kpLines) _ (fun t i => by simp) _ _
@[simp] theorem State.emitOpt_ledLog (i : Fin 16) (k : Option EventKind) :
    (s.emitOpt i k).ledLog = s.ledLog := by cases k <;> rfl
@[simp] theorem State.scanKey_ledLog (d : BitVec 16) (n : BitVec 64) (i : Fin 16) :
    (s.scanKey d n i).ledLog = s.ledLog := by simp [State.scanKey]
@[simp] theorem State.scanKeys_ledLog (d : BitVec 16) (n : BitVec 64) :
    (s.scanKeys d n).ledLog = s.ledLog :=
  State.foldl_keeps (·.ledLog) _ (fun t i => by simp) _ _
@[simp] theorem State.emitOpt_hostLog (i : Fin 16) (k : Option EventKind) :
    (s.emitOpt i k).hostLog = s.hostLog := by cases k <;> rfl
@[simp] theorem State.scanKey_hostLog (d : BitVec 16) (n : BitVec 64) (i : Fin 16) :
    (s.scanKey d n i).hostLog = s.hostLog := by simp [State.scanKey]
@[simp] theorem State.scanKeys_hostLog (d : BitVec 16) (n : BitVec 64) :
    (s.scanKeys d n).hostLog = s.hostLog :=
  State.foldl_keeps (·.hostLog) _ (fun t i => by simp) _ _
@[simp] theorem State.emitOpt_issuing (i : Fin 16) (k : Option EventKind) :
    (s.emitOpt i k).issuing = s.issuing := by cases k <;> rfl
@[simp] theorem State.scanKey_issuing (d : BitVec 16) (n : BitVec 64) (i : Fin 16) :
    (s.scanKey d n i).issuing = s.issuing := by simp [State.scanKey]
@[simp] theorem State.scanKeys_issuing (d : BitVec 16) (n : BitVec 64) :
    (s.scanKeys d n).issuing = s.issuing :=
  State.foldl_keeps (·.issuing) _ (fun t i => by simp) _ _
@[simp] theorem State.emitOpt_agenda (i : Fin 16) (k : Option EventKind) :
    (s.emitOpt i k).agenda = s.agenda := by cases k <;> rfl
@[simp] theorem State.scanKey_agenda (d : BitVec 16) (n : BitVec 64) (i : Fin 16) :
    (s.scanKey d n i).agenda = s.agenda := by simp [State.scanKey]
@[simp] theorem State.scanKeys_agenda (d : BitVec 16) (n : BitVec 64) :
    (s.scanKeys d n).agenda = s.agenda :=
  State.foldl_keeps (·.agenda) _ (fun t i => by simp) _ _
@[simp] theorem State.emitOpt_busAnswers (i : Fin 16) (k : Option EventKind) :
    (s.emitOpt i k).busAnswers = s.busAnswers := by cases k <;> rfl
@[simp] theorem State.scanKey_busAnswers (d : BitVec 16) (n : BitVec 64) (i : Fin 16) :
    (s.scanKey d n i).busAnswers = s.busAnswers := by simp [State.scanKey]
@[simp] theorem State.scanKeys_busAnswers (d : BitVec 16) (n : BitVec 64) :
    (s.scanKeys d n).busAnswers = s.busAnswers :=
  State.foldl_keeps (·.busAnswers) _ (fun t i => by simp) _ _
@[simp] theorem State.emitOpt_jitterAnswers (i : Fin 16) (k : Option EventKind) :
    (s.emitOpt i k).jitterAnswers = s.jitterAnswers := by cases k <;> rfl
@[simp] theorem State.scanKey_jitterAnswers (d : BitVec 16) (n : BitVec 64) (i : Fin 16) :
    (s.scanKey d n i).jitterAnswers = s.jitterAnswers := by simp [State.scanKey]
@[simp] theorem State.scanKeys_jitterAnswers (d : BitVec 16) (n : BitVec 64) :
    (s.scanKeys d n).jitterAnswers = s.jitterAnswers :=
  State.foldl_keeps (·.jitterAnswers) _ (fun t i => by simp) _ _
@[simp] theorem State.emitOpt_drawn (i : Fin 16) (k : Option EventKind) :
    (s.emitOpt i k).drawn = s.drawn := by cases k <;> rfl
@[simp] theorem State.scanKey_drawn (d : BitVec 16) (n : BitVec 64) (i : Fin 16) :
    (s.scanKey d n i).drawn = s.drawn := by simp [State.scanKey]
@[simp] theorem State.scanKeys_drawn (d : BitVec 16) (n : BitVec 64) :
    (s.scanKeys d n).drawn = s.drawn :=
  State.foldl_keeps (·.drawn) _ (fun t i => by simp) _ _
@[simp] theorem State.emitOpt_rdata (i : Fin 16) (k : Option EventKind) :
    (s.emitOpt i k).rdata = s.rdata := by cases k <;> rfl
@[simp] theorem State.scanKey_rdata (d : BitVec 16) (n : BitVec 64) (i : Fin 16) :
    (s.scanKey d n i).rdata = s.rdata := by simp [State.scanKey]
@[simp] theorem State.scanKeys_rdata (d : BitVec 16) (n : BitVec 64) :
    (s.scanKeys d n).rdata = s.rdata :=
  State.foldl_keeps (·.rdata) _ (fun t i => by simp) _ _
@[simp] theorem State.setAllColors_cfg (sel : ColorSel) (c : Color) :
    (s.setAllColors sel c).cfg = s.cfg :=
  State.foldl_keeps (·.cfg) _ (fun t i => by simp) _ _
@[simp] theorem State.setAllColors_p0 (sel : ColorSel) (c : Color) :
    (s.setAllColors sel c).p0 = s.p0 :=
  State.foldl_keeps (·.p0) _ (fun t i => by simp) _ _
@[simp] theorem State.setAllColors_p1 (sel : ColorSel) (c : Color) :
    (s.setAllColors sel c).p1 = s.p1 :=
  State.foldl_keeps (·.p1) _ (fun t i => by simp) _ _
@[simp] theorem State.setAllColors_p2 (sel : ColorSel) (c : Color) :
    (s.setAllColors sel c).p2 = s.p2 :=
  State.foldl_keeps (·.p2) _ (fun t i => by simp) _ _
@[simp] theorem State.setAllColors_clkEn (sel : ColorSel) (c : Color) :
    (s.setAllColors sel c).clkEn = s.clkEn :=
  State.foldl_keeps (·.clkEn) _ (fun t i => by simp) _ _
@[simp] theorem State.setAllColors_rngEn (sel : ColorSel) (c : Color) :
    (s.setAllColors sel c).rngEn = s.rngEn :=
  State.foldl_keeps (·.rngEn) _ (fun t i => by simp) _ _
@[simp] theorem State.setAllColors_qEn (sel : ColorSel) (c : Color) :
    (s.setAllColors sel c).qEn = s.qEn :=
  State.foldl_keeps (·.qEn) _ (fun t i => by simp) _ _
@[simp] theorem State.setAllColors_usbEn (sel : ColorSel) (c : Color) :
    (s.setAllColors sel c).usbEn = s.usbEn :=
  State.foldl_keeps (·.usbEn) _ (fun t i => by simp) _ _
@[simp] theorem State.setAllColors_usbIrqEn (sel : ColorSel) (c : Color) :
    (s.setAllColors sel c).usbIrqEn = s.usbIrqEn :=
  State.foldl_keeps (·.usbIrqEn) _ (fun t i => by simp) _ _
@[simp] theorem State.setAllColors_fatal (sel : ColorSel) (c : Color) :
    (s.setAllColors sel c).fatal = s.fatal :=
  State.foldl_keeps (·.fatal) _ (fun t i => by simp) _ _
@[simp] theorem State.setAllColors_fatalCause (sel : ColorSel) (c : Color) :
    (s.setAllColors sel c).fatalCause = s.fatalCause :=
  State.foldl_keeps (·.fatalCause) _ (fun t i => by simp) _ _
@[simp] theorem State.setAllColors_clk (sel : ColorSel) (c : Color) :
    (s.setAllColors sel c).clk = s.clk :=
  State.foldl_keeps (·.clk) _ (fun t i => by simp) _ _
@[simp] theorem State.setAllColors_brightLevel (sel : ColorSel) (c : Color) :
    (s.setAllColors sel c).brightLevel = s.brightLevel :=
  State.foldl_keeps (·.brightLevel) _ (fun t i => by simp) _ _
@[simp] theorem State.setAllColors_evtCount (sel : ColorSel) (c : Color) :
    (s.setAllColors sel c).evtCount = s.evtCount :=
  State.foldl_keeps (·.evtCount) _ (fun t i => by simp) _ _
@[simp] theorem State.setAllColors_evt (sel : ColorSel) (c : Color) :
    (s.setAllColors sel c).evt = s.evt :=
  State.foldl_keeps (·.evt) _ (fun t i => by simp) _ _
@[simp] theorem State.setAllColors_qMem (sel : ColorSel) (c : Color) :
    (s.setAllColors sel c).qMem = s.qMem :=
  State.foldl_keeps (·.qMem) _ (fun t i => by simp) _ _
@[simp] theorem State.setAllColors_wptr (sel : ColorSel) (c : Color) :
    (s.setAllColors sel c).wptr = s.wptr :=
  State.foldl_keeps (·.wptr) _ (fun t i => by simp) _ _
@[simp] theorem State.setAllColors_rptr (sel : ColorSel) (c : Color) :
    (s.setAllColors sel c).rptr = s.rptr :=
  State.foldl_keeps (·.rptr) _ (fun t i => by simp) _ _
@[simp] theorem State.setAllColors_wsync (sel : ColorSel) (c : Color) :
    (s.setAllColors sel c).wsync = s.wsync :=
  State.foldl_keeps (·.wsync) _ (fun t i => by simp) _ _
@[simp] theorem State.setAllColors_rsync (sel : ColorSel) (c : Color) :
    (s.setAllColors sel c).rsync = s.rsync :=
  State.foldl_keeps (·.rsync) _ (fun t i => by simp) _ _
@[simp] theorem State.setAllColors_configured (sel : ColorSel) (c : Color) :
    (s.setAllColors sel c).configured = s.configured :=
  State.foldl_keeps (·.configured) _ (fun t i => by simp) _ _
@[simp] theorem State.setAllColors_ctrlPending (sel : ColorSel) (c : Color) :
    (s.setAllColors sel c).ctrlPending = s.ctrlPending :=
  State.foldl_keeps (·.ctrlPending) _ (fun t i => by simp) _ _
@[simp] theorem State.setAllColors_evPending (sel : ColorSel) (c : Color) :
    (s.setAllColors sel c).evPending = s.evPending :=
  State.foldl_keeps (·.evPending) _ (fun t i => by simp) _ _
@[simp] theorem State.setAllColors_kbd (sel : ColorSel) (c : Color) :
    (s.setAllColors sel c).kbd = s.kbd :=
  State.foldl_keeps (·.kbd) _ (fun t i => by simp) _ _
@[simp] theorem State.setAllColors_moreHid (sel : ColorSel) (c : Color) :
    (s.setAllColors sel c).moreHid = s.moreHid :=
  State.foldl_keeps (·.moreHid) _ (fun t i => by simp) _ _
@[simp] theorem State.setAllColors_handler (sel : ColorSel) (c : Color) :
    (s.setAllColors sel c).handler = s.handler :=
  State.foldl_keeps (·.handler) _ (fun t i => by simp) _ _
@[simp] theorem State.setAllColors_renderer (sel : ColorSel) (c : Color) :
    (s.setAllColors sel c).renderer = s.renderer :=
  State.foldl_keeps (·.renderer) _ (fun t i => by simp) _ _
@[simp] theorem State.setAllColors_kpLines (sel : ColorSel) (c : Color) :
    (s.setAllColors sel c).kpLines = s.kpLines :=
  State.foldl_keeps (·.kpLines) _ (fun t i => by simp) _ _
@[simp] theorem State.setAllColors_ledLog (sel : ColorSel) (c : Color) :
    (s.setAllColors sel c).ledLog = s.ledLog :=
  State.foldl_keeps (·.ledLog) _ (fun t i => by simp) _ _
@[simp] theorem State.setAllColors_hostLog (sel : ColorSel) (c : Color) :
    (s.setAllColors sel c).hostLog = s.hostLog :=
  State.foldl_keeps (·.hostLog) _ (fun t i => by simp) _ _
@[simp] theorem State.setAllColors_issuing (sel : ColorSel) (c : Color) :
    (s.setAllColors sel c).issuing = s.issuing :=
  State.foldl_keeps (·.issuing) _ (fun t i => by simp) _ _
@[simp] theorem State.setAllColors_agenda (sel : ColorSel) (c : Color) :
    (s.setAllColors sel c).agenda = s.agenda :=
  State.foldl_keeps (·.agenda) _ (fun t i => by simp) _ _
@[simp] theorem State.setAllColors_busAnswers (sel : ColorSel) (c : Color) :
    (s.setAllColors sel c).busAnswers = s.busAnswers :=
  State.foldl_keeps (·.busAnswers) _ (fun t i => by simp) _ _
@[simp] theorem State.setAllColors_jitterAnswers (sel : ColorSel) (c : Color) :
    (s.setAllColors sel c).jitterAnswers = s.jitterAnswers :=
  State.foldl_keeps (·.jitterAnswers) _ (fun t i => by simp) _ _
@[simp] theorem State.setAllColors_drawn (sel : ColorSel) (c : Color) :
    (s.setAllColors sel c).drawn = s.drawn :=
  State.foldl_keeps (·.drawn) _ (fun t i => by simp) _ _
@[simp] theorem State.setAllColors_rdata (sel : ColorSel) (c : Color) :
    (s.setAllColors sel c).rdata = s.rdata :=
  State.foldl_keeps (·.rdata) _ (fun t i => by simp) _ _

@[simp] theorem State.emitOpt_keys (i : Fin 16) (k : Option EventKind) :
    (s.emitOpt i k).keys = s.keys := by cases k <;> rfl

/-- Bit n of the word of a list of flags is its n-th flag (R154, R160). -/
theorem flagBits_getLsbD (l : List Bool) (n : Nat) (h : l.length ≤ 32) :
    (flagBits l).getLsbD n = (l[n]?).any id := by
  induction l generalizing n with
  | nil => simp [flagBits]
  | cons b l ih =>
    rw [List.length_cons] at h
    simp only [flagBits, BitVec.getLsbD_or, BitVec.getLsbD_shiftLeft, BitVec.getLsbD_setWidth]
    cases n with
    | zero => simp
    | succ n =>
      simp only [List.getElem?_cons_succ, Nat.add_sub_cancel]
      rw [ih n (by omega)]
      by_cases hn : n + 1 < 32
      · simp [hn]
      · have : l[n]? = none := by simp; omega
        simp [hn, this]

end Sys2Proof.Machine
end

