-- ==== Sys2Proof/Laws/Rules.lean ====
section
/-!
SUPPORT. Every operation is its own rule behind the front end; what the rules leave unchanged.
-/

namespace Sys2Proof.Machine

/-- The own rule of an operation. -/
def ruleOf : Instr → State → State
  | .nop => nopRule
  | .init mask => initRule mask
  | .irqEn v => irqEnRule v
  | .readCtrl => readCtrlRule
  | .fatalReq cause => fatalReqRule cause
  | .scan => scanRule
  | .evtRead idx => evtReadRule idx
  | .keyRead idx => keyReadRule idx
  | .keyColorRead idx => keyColorReadRule idx
  | .keySetColor sel key => keySetColorRule sel key
  | .keyBcastColor sel => keyBcastColorRule sel
  | .ledSetBrightness => ledSetBrightnessRule
  | .clkRead => clkReadRule
  | .rngRead => rngReadRule
  | .qPush => qPushRule
  | .qPop => qPopRule
  | .qLevel => qLevelRule
  | .usbPushKbd => usbPushKbdRule
  | .usbPoll => usbPollRule
  | .usbStateRead => usbStateReadRule

/-- Every operation runs its rule behind the front end. -/
theorem exec_eq (i : Instr) (s : State) : exec i s = .next (dispatchOp i (ruleOf i) s) := by
  cases i <;> rfl

theorem State.accepts_iff (s : State) (i : Instr) :
    s.accepts i = true ↔
      (s.fatal = true → Instr.runsWhenFatal i = true) ∧ s.startsTooEarly = false ∧
        s.issuing ∈ Instr.ports i := by
  cases h : s.fatal <;> simp [State.accepts, and_assoc, h]

/-- An operation that passes the front end runs its rule. -/
theorem exec_of_accepts {i : Instr} {s : State} (h : s.accepts i = true) :
    exec i s = .next (ruleOf i s) := by
  rw [State.accepts_iff] at h
  obtain ⟨h1, h2, h3⟩ := h
  rw [exec_eq]
  cases hf : s.fatal <;> simp_all [dispatchOp, frontEnd]

/-- What an operation can do: the three ways the front end ends it, and its own rule. -/
theorem dispatchOp_cases (i : Instr) (s : State) (P : State → Prop)
    (hFatal : s.fatal = true → Instr.runsWhenFatal i = false → P (s.setResult .errFatal))
    (hEarly : s.startsTooEarly = true → (s.fatal = true → Instr.runsWhenFatal i = true) →
      P (s.raiseFatal causeStartupOrder))
    (hIllegal : s.issuing ∉ Instr.ports i → s.startsTooEarly = false →
      (s.fatal = true → Instr.runsWhenFatal i = true) → P (s.setResult .errIllegal))
    (hRule : s.accepts i = true → P (ruleOf i s)) :
    P (dispatchOp i (ruleOf i) s) := by
  apply frontEnd_cases
  · exact hFatal
  · exact hEarly
  · intro hp; exact hIllegal (by simpa using hp)
  · intro hp he hr
    exact hRule ((State.accepts_iff s i).2 ⟨hr, he, by simpa using hp⟩)

/-- The same for a next state of exec. -/
theorem exec_cases {i : Instr} {s t : State} (h : exec i s = .next t) (P : State → Prop)
    (hFatal : s.fatal = true → Instr.runsWhenFatal i = false → P (s.setResult .errFatal))
    (hEarly : s.startsTooEarly = true → (s.fatal = true → Instr.runsWhenFatal i = true) →
      P (s.raiseFatal causeStartupOrder))
    (hIllegal : s.issuing ∉ Instr.ports i → s.startsTooEarly = false →
      (s.fatal = true → Instr.runsWhenFatal i = true) → P (s.setResult .errIllegal))
    (hRule : s.accepts i = true → P (ruleOf i s)) : P t := by
  rw [exec_eq] at h
  cases h
  exact dispatchOp_cases i s P hFatal hEarly hIllegal hRule

/-- What an ILLEGAL word can do. -/
theorem dispatchIllegal_cases (s : State) (P : State → Prop)
    (hFatal : s.fatal = true → P (s.setResult .errFatal))
    (hEarly : s.fatal = false → s.startsTooEarly = true → P (s.raiseFatal causeStartupOrder))
    (hIllegal : s.fatal = false → s.startsTooEarly = false → P (s.setResult .errIllegal)) :
    P (dispatchIllegal s) := by
  apply frontEnd_cases
  · intro hf _; exact hFatal hf
  · intro he hf; exact hEarly (by cases h : s.fatal <;> simp_all) he
  · intro _ he hf; exact hIllegal (by cases h : s.fatal <;> simp_all) he
  · intro h; cases h

end Sys2Proof.Machine
end

