-- ==== Sys2Proof/Laws/Frames.lean ====
section
/-!
SUPPORT. The frame of the operations, field by field: which fields an operation's rule leaves as they
are, what the front end adds, and what an ILLEGAL word leaves as it is.
-/

namespace Sys2Proof.Machine

/-! The operations' own rules. -/

@[simp] theorem ruleOf_cfg (i : Instr) (s : State) : (ruleOf i s).cfg = s.cfg := by
  cases i <;> simp only [ruleOf, nopRule, initRule, irqEnRule, readCtrlRule, fatalReqRule, scanRule, State.scanRead,
    State.sendLed, evtReadRule, keyReadRule, keyColorReadRule, keySetColorRule, keyBcastColorRule,
    ledSetBrightnessRule, clkReadRule, rngReadRule, qPushRule, qPopRule, qLevelRule, usbPushKbdRule,
    usbPollRule, usbStateReadRule] <;>
    (repeat' split) <;> simp
theorem ruleOf_clkEn (i : Instr) (s : State) (h0 : ∀ a, i ≠ .init a) :
    (ruleOf i s).clkEn = s.clkEn := by
  cases i <;> simp only [ruleOf, nopRule, initRule, irqEnRule, readCtrlRule, fatalReqRule, scanRule, State.scanRead,
    State.sendLed, evtReadRule, keyReadRule, keyColorReadRule, keySetColorRule, keyBcastColorRule,
    ledSetBrightnessRule, clkReadRule, rngReadRule, qPushRule, qPopRule, qLevelRule, usbPushKbdRule,
    usbPollRule, usbStateReadRule] <;>
    (repeat' split) <;> first | simp; done | simp_all
theorem ruleOf_rngEn (i : Instr) (s : State) (h0 : ∀ a, i ≠ .init a) :
    (ruleOf i s).rngEn = s.rngEn := by
  cases i <;> simp only [ruleOf, nopRule, initRule, irqEnRule, readCtrlRule, fatalReqRule, scanRule, State.scanRead,
    State.sendLed, evtReadRule, keyReadRule, keyColorReadRule, keySetColorRule, keyBcastColorRule,
    ledSetBrightnessRule, clkReadRule, rngReadRule, qPushRule, qPopRule, qLevelRule, usbPushKbdRule,
    usbPollRule, usbStateReadRule] <;>
    (repeat' split) <;> first | simp; done | simp_all
theorem ruleOf_qEn (i : Instr) (s : State) (h0 : ∀ a, i ≠ .init a) :
    (ruleOf i s).qEn = s.qEn := by
  cases i <;> simp only [ruleOf, nopRule, initRule, irqEnRule, readCtrlRule, fatalReqRule, scanRule, State.scanRead,
    State.sendLed, evtReadRule, keyReadRule, keyColorReadRule, keySetColorRule, keyBcastColorRule,
    ledSetBrightnessRule, clkReadRule, rngReadRule, qPushRule, qPopRule, qLevelRule, usbPushKbdRule,
    usbPollRule, usbStateReadRule] <;>
    (repeat' split) <;> first | simp; done | simp_all
theorem ruleOf_usbEn (i : Instr) (s : State) (h0 : ∀ a, i ≠ .init a) :
    (ruleOf i s).usbEn = s.usbEn := by
  cases i <;> simp only [ruleOf, nopRule, initRule, irqEnRule, readCtrlRule, fatalReqRule, scanRule, State.scanRead,
    State.sendLed, evtReadRule, keyReadRule, keyColorReadRule, keySetColorRule, keyBcastColorRule,
    ledSetBrightnessRule, clkReadRule, rngReadRule, qPushRule, qPopRule, qLevelRule, usbPushKbdRule,
    usbPollRule, usbStateReadRule] <;>
    (repeat' split) <;> first | simp; done | simp_all
theorem ruleOf_usbIrqEn (i : Instr) (s : State) (h0 : ∀ a, i ≠ .irqEn a) :
    (ruleOf i s).usbIrqEn = s.usbIrqEn := by
  cases i <;> simp only [ruleOf, nopRule, initRule, irqEnRule, readCtrlRule, fatalReqRule, scanRule, State.scanRead,
    State.sendLed, evtReadRule, keyReadRule, keyColorReadRule, keySetColorRule, keyBcastColorRule,
    ledSetBrightnessRule, clkReadRule, rngReadRule, qPushRule, qPopRule, qLevelRule, usbPushKbdRule,
    usbPollRule, usbStateReadRule] <;>
    (repeat' split) <;> first | simp; done | simp_all
theorem ruleOf_fatal (i : Instr) (s : State) (h0 : ∀ a, i ≠ .irqEn a) (h1 : ∀ a, i ≠ .fatalReq a) (h2 : i ≠ .scan) :
    (ruleOf i s).fatal = s.fatal := by
  cases i <;> simp only [ruleOf, nopRule, initRule, irqEnRule, readCtrlRule, fatalReqRule, scanRule, State.scanRead,
    State.sendLed, evtReadRule, keyReadRule, keyColorReadRule, keySetColorRule, keyBcastColorRule,
    ledSetBrightnessRule, clkReadRule, rngReadRule, qPushRule, qPopRule, qLevelRule, usbPushKbdRule,
    usbPollRule, usbStateReadRule] <;>
    (repeat' split) <;> first | simp; done | simp_all
theorem ruleOf_fatalCause (i : Instr) (s : State) (h0 : ∀ a, i ≠ .irqEn a) (h1 : ∀ a, i ≠ .fatalReq a) (h2 : i ≠ .scan) :
    (ruleOf i s).fatalCause = s.fatalCause := by
  cases i <;> simp only [ruleOf, nopRule, initRule, irqEnRule, readCtrlRule, fatalReqRule, scanRule, State.scanRead,
    State.sendLed, evtReadRule, keyReadRule, keyColorReadRule, keySetColorRule, keyBcastColorRule,
    ledSetBrightnessRule, clkReadRule, rngReadRule, qPushRule, qPopRule, qLevelRule, usbPushKbdRule,
    usbPollRule, usbStateReadRule] <;>
    (repeat' split) <;> first | simp; done | simp_all
@[simp] theorem ruleOf_clk (i : Instr) (s : State) : (ruleOf i s).clk = s.clk := by
  cases i <;> simp only [ruleOf, nopRule, initRule, irqEnRule, readCtrlRule, fatalReqRule, scanRule, State.scanRead,
    State.sendLed, evtReadRule, keyReadRule, keyColorReadRule, keySetColorRule, keyBcastColorRule,
    ledSetBrightnessRule, clkReadRule, rngReadRule, qPushRule, qPopRule, qLevelRule, usbPushKbdRule,
    usbPollRule, usbStateReadRule] <;>
    (repeat' split) <;> simp
theorem ruleOf_keys (i : Instr) (s : State) (h0 : i ≠ .scan) (h1 : ∀ a b, i ≠ .keySetColor a b) (h2 : ∀ a, i ≠ .keyBcastColor a) :
    (ruleOf i s).keys = s.keys := by
  cases i <;> simp only [ruleOf, nopRule, initRule, irqEnRule, readCtrlRule, fatalReqRule, scanRule, State.scanRead,
    State.sendLed, evtReadRule, keyReadRule, keyColorReadRule, keySetColorRule, keyBcastColorRule,
    ledSetBrightnessRule, clkReadRule, rngReadRule, qPushRule, qPopRule, qLevelRule, usbPushKbdRule,
    usbPollRule, usbStateReadRule] <;>
    (repeat' split) <;> first | simp; done | simp_all
theorem ruleOf_brightLevel (i : Instr) (s : State) (h0 : i ≠ .ledSetBrightness) :
    (ruleOf i s).brightLevel = s.brightLevel := by
  cases i <;> simp only [ruleOf, nopRule, initRule, irqEnRule, readCtrlRule, fatalReqRule, scanRule, State.scanRead,
    State.sendLed, evtReadRule, keyReadRule, keyColorReadRule, keySetColorRule, keyBcastColorRule,
    ledSetBrightnessRule, clkReadRule, rngReadRule, qPushRule, qPopRule, qLevelRule, usbPushKbdRule,
    usbPollRule, usbStateReadRule] <;>
    (repeat' split) <;> first | simp; done | simp_all
theorem ruleOf_evtCount (i : Instr) (s : State) (h0 : i ≠ .scan) :
    (ruleOf i s).evtCount = s.evtCount := by
  cases i <;> simp only [ruleOf, nopRule, initRule, irqEnRule, readCtrlRule, fatalReqRule, scanRule, State.scanRead,
    State.sendLed, evtReadRule, keyReadRule, keyColorReadRule, keySetColorRule, keyBcastColorRule,
    ledSetBrightnessRule, clkReadRule, rngReadRule, qPushRule, qPopRule, qLevelRule, usbPushKbdRule,
    usbPollRule, usbStateReadRule] <;>
    (repeat' split) <;> first | simp; done | simp_all
theorem ruleOf_evt (i : Instr) (s : State) (h0 : i ≠ .scan) :
    (ruleOf i s).evt = s.evt := by
  cases i <;> simp only [ruleOf, nopRule, initRule, irqEnRule, readCtrlRule, fatalReqRule, scanRule, State.scanRead,
    State.sendLed, evtReadRule, keyReadRule, keyColorReadRule, keySetColorRule, keyBcastColorRule,
    ledSetBrightnessRule, clkReadRule, rngReadRule, qPushRule, qPopRule, qLevelRule, usbPushKbdRule,
    usbPollRule, usbStateReadRule] <;>
    (repeat' split) <;> first | simp; done | simp_all
theorem ruleOf_qMem (i : Instr) (s : State) (h0 : i ≠ .qPush) :
    (ruleOf i s).qMem = s.qMem := by
  cases i <;> simp only [ruleOf, nopRule, initRule, irqEnRule, readCtrlRule, fatalReqRule, scanRule, State.scanRead,
    State.sendLed, evtReadRule, keyReadRule, keyColorReadRule, keySetColorRule, keyBcastColorRule,
    ledSetBrightnessRule, clkReadRule, rngReadRule, qPushRule, qPopRule, qLevelRule, usbPushKbdRule,
    usbPollRule, usbStateReadRule] <;>
    (repeat' split) <;> first | simp; done | simp_all
theorem ruleOf_wptr (i : Instr) (s : State) (h0 : i ≠ .qPush) :
    (ruleOf i s).wptr = s.wptr := by
  cases i <;> simp only [ruleOf, nopRule, initRule, irqEnRule, readCtrlRule, fatalReqRule, scanRule, State.scanRead,
    State.sendLed, evtReadRule, keyReadRule, keyColorReadRule, keySetColorRule, keyBcastColorRule,
    ledSetBrightnessRule, clkReadRule, rngReadRule, qPushRule, qPopRule, qLevelRule, usbPushKbdRule,
    usbPollRule, usbStateReadRule] <;>
    (repeat' split) <;> first | simp; done | simp_all
theorem ruleOf_rptr (i : Instr) (s : State) (h0 : i ≠ .qPop) :
    (ruleOf i s).rptr = s.rptr := by
  cases i <;> simp only [ruleOf, nopRule, initRule, irqEnRule, readCtrlRule, fatalReqRule, scanRule, State.scanRead,
    State.sendLed, evtReadRule, keyReadRule, keyColorReadRule, keySetColorRule, keyBcastColorRule,
    ledSetBrightnessRule, clkReadRule, rngReadRule, qPushRule, qPopRule, qLevelRule, usbPushKbdRule,
    usbPollRule, usbStateReadRule] <;>
    (repeat' split) <;> first | simp; done | simp_all
@[simp] theorem ruleOf_wsync (i : Instr) (s : State) : (ruleOf i s).wsync = s.wsync := by
  cases i <;> simp only [ruleOf, nopRule, initRule, irqEnRule, readCtrlRule, fatalReqRule, scanRule, State.scanRead,
    State.sendLed, evtReadRule, keyReadRule, keyColorReadRule, keySetColorRule, keyBcastColorRule,
    ledSetBrightnessRule, clkReadRule, rngReadRule, qPushRule, qPopRule, qLevelRule, usbPushKbdRule,
    usbPollRule, usbStateReadRule] <;>
    (repeat' split) <;> simp
@[simp] theorem ruleOf_rsync (i : Instr) (s : State) : (ruleOf i s).rsync = s.rsync := by
  cases i <;> simp only [ruleOf, nopRule, initRule, irqEnRule, readCtrlRule, fatalReqRule, scanRule, State.scanRead,
    State.sendLed, evtReadRule, keyReadRule, keyColorReadRule, keySetColorRule, keyBcastColorRule,
    ledSetBrightnessRule, clkReadRule, rngReadRule, qPushRule, qPopRule, qLevelRule, usbPushKbdRule,
    usbPollRule, usbStateReadRule] <;>
    (repeat' split) <;> simp
theorem ruleOf_configured (i : Instr) (s : State) (h0 : i ≠ .usbPoll) :
    (ruleOf i s).configured = s.configured := by
  cases i <;> simp only [ruleOf, nopRule, initRule, irqEnRule, readCtrlRule, fatalReqRule, scanRule, State.scanRead,
    State.sendLed, evtReadRule, keyReadRule, keyColorReadRule, keySetColorRule, keyBcastColorRule,
    ledSetBrightnessRule, clkReadRule, rngReadRule, qPushRule, qPopRule, qLevelRule, usbPushKbdRule,
    usbPollRule, usbStateReadRule] <;>
    (repeat' split) <;> first | simp; done | simp_all
theorem ruleOf_ctrlPending (i : Instr) (s : State) (h0 : i ≠ .usbPoll) :
    (ruleOf i s).ctrlPending = s.ctrlPending := by
  cases i <;> simp only [ruleOf, nopRule, initRule, irqEnRule, readCtrlRule, fatalReqRule, scanRule, State.scanRead,
    State.sendLed, evtReadRule, keyReadRule, keyColorReadRule, keySetColorRule, keyBcastColorRule,
    ledSetBrightnessRule, clkReadRule, rngReadRule, qPushRule, qPopRule, qLevelRule, usbPushKbdRule,
    usbPollRule, usbStateReadRule] <;>
    (repeat' split) <;> first | simp; done | simp_all
theorem ruleOf_evPending (i : Instr) (s : State) (h0 : i ≠ .usbPoll) :
    (ruleOf i s).evPending = s.evPending := by
  cases i <;> simp only [ruleOf, nopRule, initRule, irqEnRule, readCtrlRule, fatalReqRule, scanRule, State.scanRead,
    State.sendLed, evtReadRule, keyReadRule, keyColorReadRule, keySetColorRule, keyBcastColorRule,
    ledSetBrightnessRule, clkReadRule, rngReadRule, qPushRule, qPopRule, qLevelRule, usbPushKbdRule,
    usbPollRule, usbStateReadRule] <;>
    (repeat' split) <;> first | simp; done | simp_all
theorem ruleOf_kbd (i : Instr) (s : State) (h0 : i ≠ .usbPushKbd) (h1 : i ≠ .usbPoll) :
    (ruleOf i s).kbd = s.kbd := by
  cases i <;> simp only [ruleOf, nopRule, initRule, irqEnRule, readCtrlRule, fatalReqRule, scanRule, State.scanRead,
    State.sendLed, evtReadRule, keyReadRule, keyColorReadRule, keySetColorRule, keyBcastColorRule,
    ledSetBrightnessRule, clkReadRule, rngReadRule, qPushRule, qPopRule, qLevelRule, usbPushKbdRule,
    usbPollRule, usbStateReadRule] <;>
    (repeat' split) <;> first | simp; done | simp_all
theorem ruleOf_moreHid (i : Instr) (s : State) (h0 : i ≠ .usbPoll) :
    (ruleOf i s).moreHid = s.moreHid := by
  cases i <;> simp only [ruleOf, nopRule, initRule, irqEnRule, readCtrlRule, fatalReqRule, scanRule, State.scanRead,
    State.sendLed, evtReadRule, keyReadRule, keyColorReadRule, keySetColorRule, keyBcastColorRule,
    ledSetBrightnessRule, clkReadRule, rngReadRule, qPushRule, qPopRule, qLevelRule, usbPushKbdRule,
    usbPollRule, usbStateReadRule] <;>
    (repeat' split) <;> first | simp; done | simp_all
@[simp] theorem ruleOf_handler (i : Instr) (s : State) : (ruleOf i s).handler = s.handler := by
  cases i <;> simp only [ruleOf, nopRule, initRule, irqEnRule, readCtrlRule, fatalReqRule, scanRule, State.scanRead,
    State.sendLed, evtReadRule, keyReadRule, keyColorReadRule, keySetColorRule, keyBcastColorRule,
    ledSetBrightnessRule, clkReadRule, rngReadRule, qPushRule, qPopRule, qLevelRule, usbPushKbdRule,
    usbPollRule, usbStateReadRule] <;>
    (repeat' split) <;> simp
@[simp] theorem ruleOf_renderer (i : Instr) (s : State) : (ruleOf i s).renderer = s.renderer := by
  cases i <;> simp only [ruleOf, nopRule, initRule, irqEnRule, readCtrlRule, fatalReqRule, scanRule, State.scanRead,
    State.sendLed, evtReadRule, keyReadRule, keyColorReadRule, keySetColorRule, keyBcastColorRule,
    ledSetBrightnessRule, clkReadRule, rngReadRule, qPushRule, qPopRule, qLevelRule, usbPushKbdRule,
    usbPollRule, usbStateReadRule] <;>
    (repeat' split) <;> simp
@[simp] theorem ruleOf_kpLines (i : Instr) (s : State) : (ruleOf i s).kpLines = s.kpLines := by
  cases i <;> simp only [ruleOf, nopRule, initRule, irqEnRule, readCtrlRule, fatalReqRule, scanRule, State.scanRead,
    State.sendLed, evtReadRule, keyReadRule, keyColorReadRule, keySetColorRule, keyBcastColorRule,
    ledSetBrightnessRule, clkReadRule, rngReadRule, qPushRule, qPopRule, qLevelRule, usbPushKbdRule,
    usbPollRule, usbStateReadRule] <;>
    (repeat' split) <;> simp
theorem ruleOf_ledLog (i : Instr) (s : State) (h0 : i ≠ .scan) :
    (ruleOf i s).ledLog = s.ledLog := by
  cases i <;> simp only [ruleOf, nopRule, initRule, irqEnRule, readCtrlRule, fatalReqRule, scanRule, State.scanRead,
    State.sendLed, evtReadRule, keyReadRule, keyColorReadRule, keySetColorRule, keyBcastColorRule,
    ledSetBrightnessRule, clkReadRule, rngReadRule, qPushRule, qPopRule, qLevelRule, usbPushKbdRule,
    usbPollRule, usbStateReadRule] <;>
    (repeat' split) <;> first | simp; done | simp_all
@[simp] theorem ruleOf_hostLog (i : Instr) (s : State) : (ruleOf i s).hostLog = s.hostLog := by
  cases i <;> simp only [ruleOf, nopRule, initRule, irqEnRule, readCtrlRule, fatalReqRule, scanRule, State.scanRead,
    State.sendLed, evtReadRule, keyReadRule, keyColorReadRule, keySetColorRule, keyBcastColorRule,
    ledSetBrightnessRule, clkReadRule, rngReadRule, qPushRule, qPopRule, qLevelRule, usbPushKbdRule,
    usbPollRule, usbStateReadRule] <;>
    (repeat' split) <;> simp
@[simp] theorem ruleOf_issuing (i : Instr) (s : State) : (ruleOf i s).issuing = s.issuing := by
  cases i <;> simp only [ruleOf, nopRule, initRule, irqEnRule, readCtrlRule, fatalReqRule, scanRule, State.scanRead,
    State.sendLed, evtReadRule, keyReadRule, keyColorReadRule, keySetColorRule, keyBcastColorRule,
    ledSetBrightnessRule, clkReadRule, rngReadRule, qPushRule, qPopRule, qLevelRule, usbPushKbdRule,
    usbPollRule, usbStateReadRule] <;>
    (repeat' split) <;> simp
@[simp] theorem ruleOf_agenda (i : Instr) (s : State) : (ruleOf i s).agenda = s.agenda := by
  cases i <;> simp only [ruleOf, nopRule, initRule, irqEnRule, readCtrlRule, fatalReqRule, scanRule, State.scanRead,
    State.sendLed, evtReadRule, keyReadRule, keyColorReadRule, keySetColorRule, keyBcastColorRule,
    ledSetBrightnessRule, clkReadRule, rngReadRule, qPushRule, qPopRule, qLevelRule, usbPushKbdRule,
    usbPollRule, usbStateReadRule] <;>
    (repeat' split) <;> simp
theorem ruleOf_busAnswers (i : Instr) (s : State) (h0 : i ≠ .scan) :
    (ruleOf i s).busAnswers = s.busAnswers := by
  cases i <;> simp only [ruleOf, nopRule, initRule, irqEnRule, readCtrlRule, fatalReqRule, scanRule, State.scanRead,
    State.sendLed, evtReadRule, keyReadRule, keyColorReadRule, keySetColorRule, keyBcastColorRule,
    ledSetBrightnessRule, clkReadRule, rngReadRule, qPushRule, qPopRule, qLevelRule, usbPushKbdRule,
    usbPollRule, usbStateReadRule] <;>
    (repeat' split) <;> first | simp; done | simp_all
theorem ruleOf_jitterAnswers (i : Instr) (s : State) (h0 : i ≠ .rngRead) :
    (ruleOf i s).jitterAnswers = s.jitterAnswers := by
  cases i <;> simp only [ruleOf, nopRule, initRule, irqEnRule, readCtrlRule, fatalReqRule, scanRule, State.scanRead,
    State.sendLed, evtReadRule, keyReadRule, keyColorReadRule, keySetColorRule, keyBcastColorRule,
    ledSetBrightnessRule, clkReadRule, rngReadRule, qPushRule, qPopRule, qLevelRule, usbPushKbdRule,
    usbPollRule, usbStateReadRule] <;>
    (repeat' split) <;> first | simp; done | simp_all
theorem ruleOf_drawn (i : Instr) (s : State) (h0 : i ≠ .scan) (h1 : i ≠ .rngRead) :
    (ruleOf i s).drawn = s.drawn := by
  cases i <;> simp only [ruleOf, nopRule, initRule, irqEnRule, readCtrlRule, fatalReqRule, scanRule, State.scanRead,
    State.sendLed, evtReadRule, keyReadRule, keyColorReadRule, keySetColorRule, keyBcastColorRule,
    ledSetBrightnessRule, clkReadRule, rngReadRule, qPushRule, qPopRule, qLevelRule, usbPushKbdRule,
    usbPollRule, usbStateReadRule] <;>
    (repeat' split) <;> first | simp; done | simp_all
@[simp] theorem ruleOf_rdata (i : Instr) (s : State) : (ruleOf i s).rdata = s.rdata := by
  cases i <;> simp only [ruleOf, nopRule, initRule, irqEnRule, readCtrlRule, fatalReqRule, scanRule, State.scanRead,
    State.sendLed, evtReadRule, keyReadRule, keyColorReadRule, keySetColorRule, keyBcastColorRule,
    ledSetBrightnessRule, clkReadRule, rngReadRule, qPushRule, qPopRule, qLevelRule, usbPushKbdRule,
    usbPollRule, usbStateReadRule] <;>
    (repeat' split) <;> simp

/-! The operations behind the front end. -/

@[simp] theorem dispatchOp_cfg (i : Instr) (s : State) :
    (dispatchOp i (ruleOf i) s).cfg = s.cfg :=
  dispatchOp_cases i s (fun t => t.cfg = s.cfg) (fun _ _ => by simp) (fun _ _ => by simp)
    (fun _ _ _ => by simp) (fun _ => ruleOf_cfg i s)
@[simp] theorem dispatchIllegal_cfg (s : State) : (dispatchIllegal s).cfg = s.cfg :=
  dispatchIllegal_cases s (fun t => t.cfg = s.cfg) (fun _ => by simp) (fun _ _ => by simp)
    (fun _ _ => by simp)
theorem dispatchOp_clkEn (i : Instr) (s : State) (h0 : ∀ a, i ≠ .init a) :
    (dispatchOp i (ruleOf i) s).clkEn = s.clkEn :=
  dispatchOp_cases i s (fun t => t.clkEn = s.clkEn) (fun _ _ => by simp) (fun _ _ => by simp)
    (fun _ _ _ => by simp) (fun _ => ruleOf_clkEn i s h0)
@[simp] theorem dispatchIllegal_clkEn (s : State) : (dispatchIllegal s).clkEn = s.clkEn :=
  dispatchIllegal_cases s (fun t => t.clkEn = s.clkEn) (fun _ => by simp) (fun _ _ => by simp)
    (fun _ _ => by simp)
theorem dispatchOp_rngEn (i : Instr) (s : State) (h0 : ∀ a, i ≠ .init a) :
    (dispatchOp i (ruleOf i) s).rngEn = s.rngEn :=
  dispatchOp_cases i s (fun t => t.rngEn = s.rngEn) (fun _ _ => by simp) (fun _ _ => by simp)
    (fun _ _ _ => by simp) (fun _ => ruleOf_rngEn i s h0)
@[simp] theorem dispatchIllegal_rngEn (s : State) : (dispatchIllegal s).rngEn = s.rngEn :=
  dispatchIllegal_cases s (fun t => t.rngEn = s.rngEn) (fun _ => by simp) (fun _ _ => by simp)
    (fun _ _ => by simp)
theorem dispatchOp_qEn (i : Instr) (s : State) (h0 : ∀ a, i ≠ .init a) :
    (dispatchOp i (ruleOf i) s).qEn = s.qEn :=
  dispatchOp_cases i s (fun t => t.qEn = s.qEn) (fun _ _ => by simp) (fun _ _ => by simp)
    (fun _ _ _ => by simp) (fun _ => ruleOf_qEn i s h0)
@[simp] theorem dispatchIllegal_qEn (s : State) : (dispatchIllegal s).qEn = s.qEn :=
  dispatchIllegal_cases s (fun t => t.qEn = s.qEn) (fun _ => by simp) (fun _ _ => by simp)
    (fun _ _ => by simp)
theorem dispatchOp_usbEn (i : Instr) (s : State) (h0 : ∀ a, i ≠ .init a) :
    (dispatchOp i (ruleOf i) s).usbEn = s.usbEn :=
  dispatchOp_cases i s (fun t => t.usbEn = s.usbEn) (fun _ _ => by simp) (fun _ _ => by simp)
    (fun _ _ _ => by simp) (fun _ => ruleOf_usbEn i s h0)
@[simp] theorem dispatchIllegal_usbEn (s : State) : (dispatchIllegal s).usbEn = s.usbEn :=
  dispatchIllegal_cases s (fun t => t.usbEn = s.usbEn) (fun _ => by simp) (fun _ _ => by simp)
    (fun _ _ => by simp)
theorem dispatchOp_usbIrqEn (i : Instr) (s : State) (h0 : ∀ a, i ≠ .irqEn a) :
    (dispatchOp i (ruleOf i) s).usbIrqEn = s.usbIrqEn :=
  dispatchOp_cases i s (fun t => t.usbIrqEn = s.usbIrqEn) (fun _ _ => by simp) (fun _ _ => by simp)
    (fun _ _ _ => by simp) (fun _ => ruleOf_usbIrqEn i s h0)
@[simp] theorem dispatchIllegal_usbIrqEn (s : State) : (dispatchIllegal s).usbIrqEn = s.usbIrqEn :=
  dispatchIllegal_cases s (fun t => t.usbIrqEn = s.usbIrqEn) (fun _ => by simp) (fun _ _ => by simp)
    (fun _ _ => by simp)
@[simp] theorem dispatchOp_clk (i : Instr) (s : State) :
    (dispatchOp i (ruleOf i) s).clk = s.clk :=
  dispatchOp_cases i s (fun t => t.clk = s.clk) (fun _ _ => by simp) (fun _ _ => by simp)
    (fun _ _ _ => by simp) (fun _ => ruleOf_clk i s)
@[simp] theorem dispatchIllegal_clk (s : State) : (dispatchIllegal s).clk = s.clk :=
  dispatchIllegal_cases s (fun t => t.clk = s.clk) (fun _ => by simp) (fun _ _ => by simp)
    (fun _ _ => by simp)
theorem dispatchOp_keys (i : Instr) (s : State) (h0 : i ≠ .scan) (h1 : ∀ a b, i ≠ .keySetColor a b) (h2 : ∀ a, i ≠ .keyBcastColor a) :
    (dispatchOp i (ruleOf i) s).keys = s.keys :=
  dispatchOp_cases i s (fun t => t.keys = s.keys) (fun _ _ => by simp) (fun _ _ => by simp)
    (fun _ _ _ => by simp) (fun _ => ruleOf_keys i s h0 h1 h2)
@[simp] theorem dispatchIllegal_keys (s : State) : (dispatchIllegal s).keys = s.keys :=
  dispatchIllegal_cases s (fun t => t.keys = s.keys) (fun _ => by simp) (fun _ _ => by simp)
    (fun _ _ => by simp)
theorem dispatchOp_brightLevel (i : Instr) (s : State) (h0 : i ≠ .ledSetBrightness) :
    (dispatchOp i (ruleOf i) s).brightLevel = s.brightLevel :=
  dispatchOp_cases i s (fun t => t.brightLevel = s.brightLevel) (fun _ _ => by simp) (fun _ _ => by simp)
    (fun _ _ _ => by simp) (fun _ => ruleOf_brightLevel i s h0)
@[simp] theorem dispatchIllegal_brightLevel (s : State) : (dispatchIllegal s).brightLevel = s.brightLevel :=
  dispatchIllegal_cases s (fun t => t.brightLevel = s.brightLevel) (fun _ => by simp) (fun _ _ => by simp)
    (fun _ _ => by simp)
theorem dispatchOp_evtCount (i : Instr) (s : State) (h0 : i ≠ .scan) :
    (dispatchOp i (ruleOf i) s).evtCount = s.evtCount :=
  dispatchOp_cases i s (fun t => t.evtCount = s.evtCount) (fun _ _ => by simp) (fun _ _ => by simp)
    (fun _ _ _ => by simp) (fun _ => ruleOf_evtCount i s h0)
@[simp] theorem dispatchIllegal_evtCount (s : State) : (dispatchIllegal s).evtCount = s.evtCount :=
  dispatchIllegal_cases s (fun t => t.evtCount = s.evtCount) (fun _ => by simp) (fun _ _ => by simp)
    (fun _ _ => by simp)
theorem dispatchOp_evt (i : Instr) (s : State) (h0 : i ≠ .scan) :
    (dispatchOp i (ruleOf i) s).evt = s.evt :=
  dispatchOp_cases i s (fun t => t.evt = s.evt) (fun _ _ => by simp) (fun _ _ => by simp)
    (fun _ _ _ => by simp) (fun _ => ruleOf_evt i s h0)
@[simp] theorem dispatchIllegal_evt (s : State) : (dispatchIllegal s).evt = s.evt :=
  dispatchIllegal_cases s (fun t => t.evt = s.evt) (fun _ => by simp) (fun _ _ => by simp)
    (fun _ _ => by simp)
theorem dispatchOp_qMem (i : Instr) (s : State) (h0 : i ≠ .qPush) :
    (dispatchOp i (ruleOf i) s).qMem = s.qMem :=
  dispatchOp_cases i s (fun t => t.qMem = s.qMem) (fun _ _ => by simp) (fun _ _ => by simp)
    (fun _ _ _ => by simp) (fun _ => ruleOf_qMem i s h0)
@[simp] theorem dispatchIllegal_qMem (s : State) : (dispatchIllegal s).qMem = s.qMem :=
  dispatchIllegal_cases s (fun t => t.qMem = s.qMem) (fun _ => by simp) (fun _ _ => by simp)
    (fun _ _ => by simp)
theorem dispatchOp_wptr (i : Instr) (s : State) (h0 : i ≠ .qPush) :
    (dispatchOp i (ruleOf i) s).wptr = s.wptr :=
  dispatchOp_cases i s (fun t => t.wptr = s.wptr) (fun _ _ => by simp) (fun _ _ => by simp)
    (fun _ _ _ => by simp) (fun _ => ruleOf_wptr i s h0)
@[simp] theorem dispatchIllegal_wptr (s : State) : (dispatchIllegal s).wptr = s.wptr :=
  dispatchIllegal_cases s (fun t => t.wptr = s.wptr) (fun _ => by simp) (fun _ _ => by simp)
    (fun _ _ => by simp)
theorem dispatchOp_rptr (i : Instr) (s : State) (h0 : i ≠ .qPop) :
    (dispatchOp i (ruleOf i) s).rptr = s.rptr :=
  dispatchOp_cases i s (fun t => t.rptr = s.rptr) (fun _ _ => by simp) (fun _ _ => by simp)
    (fun _ _ _ => by simp) (fun _ => ruleOf_rptr i s h0)
@[simp] theorem dispatchIllegal_rptr (s : State) : (dispatchIllegal s).rptr = s.rptr :=
  dispatchIllegal_cases s (fun t => t.rptr = s.rptr) (fun _ => by simp) (fun _ _ => by simp)
    (fun _ _ => by simp)
@[simp] theorem dispatchOp_wsync (i : Instr) (s : State) :
    (dispatchOp i (ruleOf i) s).wsync = s.wsync :=
  dispatchOp_cases i s (fun t => t.wsync = s.wsync) (fun _ _ => by simp) (fun _ _ => by simp)
    (fun _ _ _ => by simp) (fun _ => ruleOf_wsync i s)
@[simp] theorem dispatchIllegal_wsync (s : State) : (dispatchIllegal s).wsync = s.wsync :=
  dispatchIllegal_cases s (fun t => t.wsync = s.wsync) (fun _ => by simp) (fun _ _ => by simp)
    (fun _ _ => by simp)
@[simp] theorem dispatchOp_rsync (i : Instr) (s : State) :
    (dispatchOp i (ruleOf i) s).rsync = s.rsync :=
  dispatchOp_cases i s (fun t => t.rsync = s.rsync) (fun _ _ => by simp) (fun _ _ => by simp)
    (fun _ _ _ => by simp) (fun _ => ruleOf_rsync i s)
@[simp] theorem dispatchIllegal_rsync (s : State) : (dispatchIllegal s).rsync = s.rsync :=
  dispatchIllegal_cases s (fun t => t.rsync = s.rsync) (fun _ => by simp) (fun _ _ => by simp)
    (fun _ _ => by simp)
theorem dispatchOp_configured (i : Instr) (s : State) (h0 : i ≠ .usbPoll) :
    (dispatchOp i (ruleOf i) s).configured = s.configured :=
  dispatchOp_cases i s (fun t => t.configured = s.configured) (fun _ _ => by simp) (fun _ _ => by simp)
    (fun _ _ _ => by simp) (fun _ => ruleOf_configured i s h0)
@[simp] theorem dispatchIllegal_configured (s : State) : (dispatchIllegal s).configured = s.configured :=
  dispatchIllegal_cases s (fun t => t.configured = s.configured) (fun _ => by simp) (fun _ _ => by simp)
    (fun _ _ => by simp)
theorem dispatchOp_ctrlPending (i : Instr) (s : State) (h0 : i ≠ .usbPoll) :
    (dispatchOp i (ruleOf i) s).ctrlPending = s.ctrlPending :=
  dispatchOp_cases i s (fun t => t.ctrlPending = s.ctrlPending) (fun _ _ => by simp) (fun _ _ => by simp)
    (fun _ _ _ => by simp) (fun _ => ruleOf_ctrlPending i s h0)
@[simp] theorem dispatchIllegal_ctrlPending (s : State) : (dispatchIllegal s).ctrlPending = s.ctrlPending :=
  dispatchIllegal_cases s (fun t => t.ctrlPending = s.ctrlPending) (fun _ => by simp) (fun _ _ => by simp)
    (fun _ _ => by simp)
theorem dispatchOp_evPending (i : Instr) (s : State) (h0 : i ≠ .usbPoll) :
    (dispatchOp i (ruleOf i) s).evPending = s.evPending :=
  dispatchOp_cases i s (fun t => t.evPending = s.evPending) (fun _ _ => by simp) (fun _ _ => by simp)
    (fun _ _ _ => by simp) (fun _ => ruleOf_evPending i s h0)
@[simp] theorem dispatchIllegal_evPending (s : State) : (dispatchIllegal s).evPending = s.evPending :=
  dispatchIllegal_cases s (fun t => t.evPending = s.evPending) (fun _ => by simp) (fun _ _ => by simp)
    (fun _ _ => by simp)
theorem dispatchOp_kbd (i : Instr) (s : State) (h0 : i ≠ .usbPushKbd) (h1 : i ≠ .usbPoll) :
    (dispatchOp i (ruleOf i) s).kbd = s.kbd :=
  dispatchOp_cases i s (fun t => t.kbd = s.kbd) (fun _ _ => by simp) (fun _ _ => by simp)
    (fun _ _ _ => by simp) (fun _ => ruleOf_kbd i s h0 h1)
@[simp] theorem dispatchIllegal_kbd (s : State) : (dispatchIllegal s).kbd = s.kbd :=
  dispatchIllegal_cases s (fun t => t.kbd = s.kbd) (fun _ => by simp) (fun _ _ => by simp)
    (fun _ _ => by simp)
theorem dispatchOp_moreHid (i : Instr) (s : State) (h0 : i ≠ .usbPoll) :
    (dispatchOp i (ruleOf i) s).moreHid = s.moreHid :=
  dispatchOp_cases i s (fun t => t.moreHid = s.moreHid) (fun _ _ => by simp) (fun _ _ => by simp)
    (fun _ _ _ => by simp) (fun _ => ruleOf_moreHid i s h0)
@[simp] theorem dispatchIllegal_moreHid (s : State) : (dispatchIllegal s).moreHid = s.moreHid :=
  dispatchIllegal_cases s (fun t => t.moreHid = s.moreHid) (fun _ => by simp) (fun _ _ => by simp)
    (fun _ _ => by simp)
@[simp] theorem dispatchOp_handler (i : Instr) (s : State) :
    (dispatchOp i (ruleOf i) s).handler = s.handler :=
  dispatchOp_cases i s (fun t => t.handler = s.handler) (fun _ _ => by simp) (fun _ _ => by simp)
    (fun _ _ _ => by simp) (fun _ => ruleOf_handler i s)
@[simp] theorem dispatchIllegal_handler (s : State) : (dispatchIllegal s).handler = s.handler :=
  dispatchIllegal_cases s (fun t => t.handler = s.handler) (fun _ => by simp) (fun _ _ => by simp)
    (fun _ _ => by simp)
@[simp] theorem dispatchOp_renderer (i : Instr) (s : State) :
    (dispatchOp i (ruleOf i) s).renderer = s.renderer :=
  dispatchOp_cases i s (fun t => t.renderer = s.renderer) (fun _ _ => by simp) (fun _ _ => by simp)
    (fun _ _ _ => by simp) (fun _ => ruleOf_renderer i s)
@[simp] theorem dispatchIllegal_renderer (s : State) : (dispatchIllegal s).renderer = s.renderer :=
  dispatchIllegal_cases s (fun t => t.renderer = s.renderer) (fun _ => by simp) (fun _ _ => by simp)
    (fun _ _ => by simp)
@[simp] theorem dispatchOp_kpLines (i : Instr) (s : State) :
    (dispatchOp i (ruleOf i) s).kpLines = s.kpLines :=
  dispatchOp_cases i s (fun t => t.kpLines = s.kpLines) (fun _ _ => by simp) (fun _ _ => by simp)
    (fun _ _ _ => by simp) (fun _ => ruleOf_kpLines i s)
@[simp] theorem dispatchIllegal_kpLines (s : State) : (dispatchIllegal s).kpLines = s.kpLines :=
  dispatchIllegal_cases s (fun t => t.kpLines = s.kpLines) (fun _ => by simp) (fun _ _ => by simp)
    (fun _ _ => by simp)
theorem dispatchOp_ledLog (i : Instr) (s : State) (h0 : i ≠ .scan) :
    (dispatchOp i (ruleOf i) s).ledLog = s.ledLog :=
  dispatchOp_cases i s (fun t => t.ledLog = s.ledLog) (fun _ _ => by simp) (fun _ _ => by simp)
    (fun _ _ _ => by simp) (fun _ => ruleOf_ledLog i s h0)
@[simp] theorem dispatchIllegal_ledLog (s : State) : (dispatchIllegal s).ledLog = s.ledLog :=
  dispatchIllegal_cases s (fun t => t.ledLog = s.ledLog) (fun _ => by simp) (fun _ _ => by simp)
    (fun _ _ => by simp)
@[simp] theorem dispatchOp_hostLog (i : Instr) (s : State) :
    (dispatchOp i (ruleOf i) s).hostLog = s.hostLog :=
  dispatchOp_cases i s (fun t => t.hostLog = s.hostLog) (fun _ _ => by simp) (fun _ _ => by simp)
    (fun _ _ _ => by simp) (fun _ => ruleOf_hostLog i s)
@[simp] theorem dispatchIllegal_hostLog (s : State) : (dispatchIllegal s).hostLog = s.hostLog :=
  dispatchIllegal_cases s (fun t => t.hostLog = s.hostLog) (fun _ => by simp) (fun _ _ => by simp)
    (fun _ _ => by simp)
@[simp] theorem dispatchOp_issuing (i : Instr) (s : State) :
    (dispatchOp i (ruleOf i) s).issuing = s.issuing :=
  dispatchOp_cases i s (fun t => t.issuing = s.issuing) (fun _ _ => by simp) (fun _ _ => by simp)
    (fun _ _ _ => by simp) (fun _ => ruleOf_issuing i s)
@[simp] theorem dispatchIllegal_issuing (s : State) : (dispatchIllegal s).issuing = s.issuing :=
  dispatchIllegal_cases s (fun t => t.issuing = s.issuing) (fun _ => by simp) (fun _ _ => by simp)
    (fun _ _ => by simp)
@[simp] theorem dispatchOp_agenda (i : Instr) (s : State) :
    (dispatchOp i (ruleOf i) s).agenda = s.agenda :=
  dispatchOp_cases i s (fun t => t.agenda = s.agenda) (fun _ _ => by simp) (fun _ _ => by simp)
    (fun _ _ _ => by simp) (fun _ => ruleOf_agenda i s)
@[simp] theorem dispatchIllegal_agenda (s : State) : (dispatchIllegal s).agenda = s.agenda :=
  dispatchIllegal_cases s (fun t => t.agenda = s.agenda) (fun _ => by simp) (fun _ _ => by simp)
    (fun _ _ => by simp)
theorem dispatchOp_busAnswers (i : Instr) (s : State) (h0 : i ≠ .scan) :
    (dispatchOp i (ruleOf i) s).busAnswers = s.busAnswers :=
  dispatchOp_cases i s (fun t => t.busAnswers = s.busAnswers) (fun _ _ => by simp) (fun _ _ => by simp)
    (fun _ _ _ => by simp) (fun _ => ruleOf_busAnswers i s h0)
@[simp] theorem dispatchIllegal_busAnswers (s : State) : (dispatchIllegal s).busAnswers = s.busAnswers :=
  dispatchIllegal_cases s (fun t => t.busAnswers = s.busAnswers) (fun _ => by simp) (fun _ _ => by simp)
    (fun _ _ => by simp)
theorem dispatchOp_jitterAnswers (i : Instr) (s : State) (h0 : i ≠ .rngRead) :
    (dispatchOp i (ruleOf i) s).jitterAnswers = s.jitterAnswers :=
  dispatchOp_cases i s (fun t => t.jitterAnswers = s.jitterAnswers) (fun _ _ => by simp) (fun _ _ => by simp)
    (fun _ _ _ => by simp) (fun _ => ruleOf_jitterAnswers i s h0)
@[simp] theorem dispatchIllegal_jitterAnswers (s : State) : (dispatchIllegal s).jitterAnswers = s.jitterAnswers :=
  dispatchIllegal_cases s (fun t => t.jitterAnswers = s.jitterAnswers) (fun _ => by simp) (fun _ _ => by simp)
    (fun _ _ => by simp)
theorem dispatchOp_drawn (i : Instr) (s : State) (h0 : i ≠ .scan) (h1 : i ≠ .rngRead) :
    (dispatchOp i (ruleOf i) s).drawn = s.drawn :=
  dispatchOp_cases i s (fun t => t.drawn = s.drawn) (fun _ _ => by simp) (fun _ _ => by simp)
    (fun _ _ _ => by simp) (fun _ => ruleOf_drawn i s h0 h1)
@[simp] theorem dispatchIllegal_drawn (s : State) : (dispatchIllegal s).drawn = s.drawn :=
  dispatchIllegal_cases s (fun t => t.drawn = s.drawn) (fun _ => by simp) (fun _ _ => by simp)
    (fun _ _ => by simp)
@[simp] theorem dispatchOp_rdata (i : Instr) (s : State) :
    (dispatchOp i (ruleOf i) s).rdata = s.rdata :=
  dispatchOp_cases i s (fun t => t.rdata = s.rdata) (fun _ _ => by simp) (fun _ _ => by simp)
    (fun _ _ _ => by simp) (fun _ => ruleOf_rdata i s)
@[simp] theorem dispatchIllegal_rdata (s : State) : (dispatchIllegal s).rdata = s.rdata :=
  dispatchIllegal_cases s (fun t => t.rdata = s.rdata) (fun _ => by simp) (fun _ _ => by simp)
    (fun _ _ => by simp)

end Sys2Proof.Machine
end

