-- ==== Sys2Proof/Laws/PerInstr.lean ====
section
/-!
SUPPORT. Statements made of every operation, one lemma per constructor.

Family InRow: the word of an operation lies in a row of the opcode map that carries the operation's own
opcode (spec/30_encoding.md R73, R74).
-/

namespace Sys2Proof.Laws.InRow

set_option Elab.async false

/-- Some row of the opcode map matches the operation's word, and its opcode is the word's. -/
def Statement (i : Instr) : Prop :=
  ∃ r ∈ opcodeMap, r.holds (encode i) = true ∧
    r.matchBits.extractLsb' 24 8 = (encode i).extractLsb' 24 8

theorem nop : Statement .nop := by unfold Statement; decide +kernel

theorem init : ∀ mask, Statement (.init mask) := by unfold Statement; decide +kernel

theorem irqEn : ∀ v, Statement (.irqEn v) := by unfold Statement; decide +kernel

theorem readCtrl : Statement .readCtrl := by unfold Statement; decide +kernel

theorem fatalReq : ∀ cause, Statement (.fatalReq cause) := by unfold Statement; decide +kernel

theorem scan : Statement .scan := by unfold Statement; decide +kernel

theorem evtRead : ∀ idx, Statement (.evtRead idx) := by unfold Statement; decide +kernel

theorem keyRead : ∀ idx, Statement (.keyRead idx) := by unfold Statement; decide +kernel

theorem keyColorRead : ∀ idx, Statement (.keyColorRead idx) := by unfold Statement; decide +kernel

theorem keySetColor (sel : ColorSel) (key : Fin 16) : Statement (.keySetColor sel key) := by
  unfold Statement
  revert key
  cases sel <;> decide +kernel

theorem keyBcastColor (sel : ColorSel) : Statement (.keyBcastColor sel) := by
  unfold Statement
  cases sel <;> decide +kernel

theorem ledSetBrightness : Statement .ledSetBrightness := by unfold Statement; decide +kernel

theorem clkRead : Statement .clkRead := by unfold Statement; decide +kernel

theorem rngRead : Statement .rngRead := by unfold Statement; decide +kernel

theorem qPush : Statement .qPush := by unfold Statement; decide +kernel

theorem qPop : Statement .qPop := by unfold Statement; decide +kernel

theorem qLevel : Statement .qLevel := by unfold Statement; decide +kernel

theorem usbPushKbd : Statement .usbPushKbd := by unfold Statement; decide +kernel

theorem usbPoll : Statement .usbPoll := by unfold Statement; decide +kernel

theorem usbStateRead : Statement .usbStateRead := by unfold Statement; decide +kernel

end Sys2Proof.Laws.InRow
end

