-- ==== Sys2Proof/Laws/Queue.lean ====
section
/-!
SUPPORT. The queue as a list: what moving one pointer does to the entries that are queued, and what the
queue's invariant says about a push and a pop.
-/

namespace Sys2Proof.Machine

/-- The queued entries of given memory and pointers. -/
def entriesBetween (q : Vector Entry 16) (w r : BitVec 5) : List Entry :=
  (List.range (w - r).toNat).map (fun k => q[slotOf (r + BitVec.ofNat 5 k)])

theorem State.contents_eq (s : State) : s.contents = entriesBetween s.qMem s.wptr s.rptr := rfl

/-- The contents follow from the memory and the two true pointers alone. -/
theorem State.contents_congr {s t : State} (hm : t.qMem = s.qMem) (hw : t.wptr = s.wptr)
    (hr : t.rptr = s.rptr) : t.contents = s.contents := by
  rw [State.contents_eq, State.contents_eq, hm, hw, hr]

theorem slotOf_val (p : BitVec 5) : (slotOf p).val = p.toNat % 16 := by
  simp [slotOf]

theorem entriesBetween_push (q : Vector Entry 16) (w r : BitVec 5) (b : Entry) (h : (w - r).toNat ≤ 15) :
    entriesBetween (q.set (slotOf w).val b) (w + 1) r = entriesBetween q w r ++ [b] := by
  have hlen : (w + 1 - r).toNat = (w - r).toNat + 1 := by
    simp only [BitVec.toNat_sub, BitVec.toNat_add, BitVec.toNat_ofNat, BitVec.ofNat_eq_ofNat] at *
    omega
  unfold entriesBetween
  rw [hlen, List.range_succ, List.map_append]
  congr 1
  · refine List.map_congr_left fun k hk => ?_
    have hk' := List.mem_range.1 hk
    have hne : (slotOf w).val ≠ (slotOf (r + BitVec.ofNat 5 k)).val := by
      rw [slotOf_val, slotOf_val]
      simp only [BitVec.toNat_sub, BitVec.toNat_add, BitVec.toNat_ofNat, BitVec.ofNat_eq_ofNat] at *
      omega
    exact Vector.getElem_set_ne _ _ hne
  · have hlast : r + BitVec.ofNat 5 (w - r).toNat = w := by
      apply BitVec.eq_of_toNat_eq
      simp only [BitVec.toNat_sub, BitVec.toNat_add, BitVec.toNat_ofNat]
      omega
    simp only [List.map_cons, List.map_nil, hlast]
    exact congrArg (fun x => [x]) (Vector.getElem_set_self _)

theorem entriesBetween_pop (q : Vector Entry 16) (w r : BitVec 5) (h : w ≠ r) :
    q[slotOf r] :: entriesBetween q w (r + 1) = entriesBetween q w r := by
  have hne : w.toNat ≠ r.toNat := fun e => h (BitVec.eq_of_toNat_eq e)
  have hlen : (w - r).toNat = (w - (r + 1)).toNat + 1 := by
    simp only [BitVec.toNat_sub, BitVec.toNat_add, BitVec.toNat_ofNat, BitVec.ofNat_eq_ofNat]
    omega
  unfold entriesBetween
  rw [hlen, List.range_succ_eq_map, List.map_cons, List.map_map]
  congr 1
  · simp
  · refine List.map_congr_left fun k _ => ?_
    refine congrArg (fun p => q[slotOf p]) (?_ : r + 1 + BitVec.ofNat 5 k = r + BitVec.ofNat 5 k.succ)
    apply BitVec.eq_of_toNat_eq
    simp only [BitVec.toNat_add, BitVec.toNat_ofNat, BitVec.ofNat_eq_ofNat]
    omega

/-- A store at wptr appends its entry. -/
theorem State.contents_push {s t : State} {b : Entry} (h : s.occupancy.toNat ≤ 15)
    (hm : t.qMem = s.qMem.set (slotOf s.wptr).val b) (hw : t.wptr = s.wptr + 1)
    (hr : t.rptr = s.rptr) : t.contents = s.contents ++ [b] := by
  rw [State.contents_eq, State.contents_eq, hm, hw, hr]
  exact entriesBetween_push _ _ _ b h

/-- An advance of rptr drops the oldest entry. -/
theorem State.contents_pop {s t : State} (h : s.wptr ≠ s.rptr) (hm : t.qMem = s.qMem)
    (hw : t.wptr = s.wptr) (hr : t.rptr = s.rptr + 1) :
    s.qMem[slotOf s.rptr] :: t.contents = s.contents := by
  rw [State.contents_eq, State.contents_eq, hm, hw, hr]
  exact entriesBetween_pop _ _ _ h

/-- A push the producers do not see as full has room (R136). -/
theorem QueueInv.room {s : State} (h : QueueInv s) (hf : s.producerFull = false) :
    s.occupancy.toNat ≤ 15 := by
  have hadd := h.freed_add
  have hle := h.producer_le
  have hne : s.producerView.toNat ≠ 16 := fun e => by
    simp [State.producerFull, show s.producerView = 16#5 from BitVec.eq_of_toNat_eq e] at hf
  omega

/-- A pop that sees an entry finds the queue not empty (R136). -/
theorem QueueInv.visible {s : State} (h : QueueInv s) (hv : s.rptr ≠ s.wsync) : s.wptr ≠ s.rptr := by
  intro e
  have hle := h.visible_le
  have hne : s.wsync.toNat ≠ s.rptr.toNat := fun e' => hv (BitVec.eq_of_toNat_eq e'.symm)
  simp only [State.occupancy, State.consumerView, e, BitVec.toNat_sub] at hle
  omega

end Sys2Proof.Machine
end

