-- ==== Sys2Proof/Laws/Scan.lean ====
section
/-!
SUPPORT. What the scanner's loop and the colour broadcast do to the key array and the event list, said
once: the loop over 0, 1, ..., 15 is one function per key.
-/

namespace Sys2Proof.Machine

/-- What the per-key state machine makes of key i of s (R114). -/
def State.keyOut (s : State) (down : BitVec 16) (now : BitVec 64) (i : Fin 16) : Key × Option EventKind :=
  keyStep (holdTicks s.cfg) s.keys[i] (down.getLsbD i.val) now

/-- The event words of the keys of a list, in its order (R115). -/
def State.eventWords (s : State) (down : BitVec 16) (now : BitVec 64) (l : List (Fin 16)) : List Word :=
  l.filterMap (fun i => (s.keyOut down now i).2.map (eventWord i))

theorem State.eventWords_length (s : State) (d : BitVec 16) (n : BitVec 64) (l : List (Fin 16)) :
    (s.eventWords d n l).length ≤ l.length :=
  List.length_filterMap_le _ _

theorem mem_indices (i : Fin 16) : i ∈ indices := by
  revert i; decide

/-- Writing slot c appends one word to the first c words. -/
theorem take_setIfInBounds (v : Vector Word 16) {c : Nat} (hc : c < 16) (w : Word) :
    (v.setIfInBounds c w).toList.take (c + 1) = v.toList.take c ++ [w] := by
  rcases v with ⟨v, hv⟩
  simp only [Vector.setIfInBounds_mk, Vector.toList_mk, Array.toList_setIfInBounds]
  rw [List.take_add_one, List.getElem?_set]
  simp [hv, hc, List.take_set, List.set_eq_of_length_le]

/-- One key's part of the loop. -/
theorem State.scanKey_spec (s : State) (d : BitVec 16) (n : BitVec 64) (a : Fin 16)
    (h : s.evtCount < 16) :
    (∀ i : Fin 16, i ≠ a → (s.scanKey d n a).keys[i] = s.keys[i]) ∧
      (s.scanKey d n a).keys[a] = (s.keyOut d n a).1 ∧
      (s.scanKey d n a).evtCount = s.evtCount + (s.eventWords d n [a]).length ∧
      (s.scanKey d n a).evt.toList.take (s.scanKey d n a).evtCount =
        s.evt.toList.take s.evtCount ++ s.eventWords d n [a] := by
  refine ⟨?_, ?_, ?_⟩
  · intro i hi
    have : a.val ≠ i.val := fun e => hi (Fin.ext e).symm
    simp only [State.scanKey, State.emitOpt_keys, State.setKey_keys]
    simp [this]
  · simp only [State.scanKey, State.emitOpt_keys, State.setKey_keys]
    simp [State.keyOut]
  · have e : s.scanKey d n a = (s.setKey a (s.keyOut d n a).1).emitOpt a (s.keyOut d n a).2 := rfl
    rw [e]
    simp only [State.eventWords, List.filterMap_cons, List.filterMap_nil]
    cases (s.keyOut d n a).2 with
    | none => simp [State.emitOpt]
    | some k =>
      refine ⟨rfl, ?_⟩
      exact take_setIfInBounds _ h _

/-- The loop of SCAN over any list of keys without repeats. -/
theorem State.scan_loop (d : BitVec 16) (n : BitVec 64) (l : List (Fin 16)) (s : State)
    (hl : l.Nodup) (hc : s.evtCount + l.length ≤ 16) :
    (∀ i : Fin 16, i ∉ l → (l.foldl (fun t i => t.scanKey d n i) s).keys[i] = s.keys[i]) ∧
      (∀ i ∈ l, (l.foldl (fun t i => t.scanKey d n i) s).keys[i] = (s.keyOut d n i).1) ∧
      (l.foldl (fun t i => t.scanKey d n i) s).evtCount =
        s.evtCount + (s.eventWords d n l).length ∧
      (l.foldl (fun t i => t.scanKey d n i) s).evt.toList.take
          (l.foldl (fun t i => t.scanKey d n i) s).evtCount =
        s.evt.toList.take s.evtCount ++ s.eventWords d n l := by
  induction l generalizing s with
  | nil => simp [State.eventWords]
  | cons a l ih =>
    rw [List.nodup_cons] at hl
    rw [List.length_cons] at hc
    obtain ⟨hk, hka, hcnt, hlist⟩ := s.scanKey_spec d n a (by omega)
    have hout : ∀ i, i ≠ a → (s.scanKey d n a).keyOut d n i = s.keyOut d n i := by
      intro i hi
      simp only [State.keyOut, State.scanKey_cfg, hk i hi]
    have hev : (s.scanKey d n a).eventWords d n l = s.eventWords d n l := by
      refine List.filterMap_congr fun i hi => ?_
      rw [hout i fun e => hl.1 (e ▸ hi)]
    have hcons : s.eventWords d n (a :: l) = s.eventWords d n [a] ++ s.eventWords d n l := by
      rw [State.eventWords, State.eventWords, State.eventWords, ← List.filterMap_append]; rfl
    have h1 : (s.eventWords d n [a]).length ≤ 1 := s.eventWords_length d n [a]
    obtain ⟨i1, i2, i3, i4⟩ := ih (s.scanKey d n a) hl.2 (by omega)
    rw [List.foldl_cons]
    refine ⟨fun i hi => ?_, fun i hi => ?_, ?_, ?_⟩
    · rw [List.mem_cons, not_or] at hi
      rw [i1 i hi.2, hk i hi.1]
    · rcases List.mem_cons.1 hi with rfl | hm
      · rw [i1 _ hl.1, hka]
      · rw [i2 i hm, hout i fun e => hl.1 (e ▸ hm)]
    · rw [i3, hcnt, hev, hcons, List.length_append]; omega
    · rw [i4, hlist, hev, hcons, List.append_assoc]

/-- The whole loop of SCAN, from an empty event list (R113). -/
theorem State.scanKeys_spec (s : State) (d : BitVec 16) (n : BitVec 64) (h : s.evtCount = 0) :
    (∀ i : Fin 16, (s.scanKeys d n).keys[i] = (s.keyOut d n i).1) ∧
      (s.scanKeys d n).evtCount = (s.eventWords d n indices).length ∧
      (s.scanKeys d n).evt.toList.take (s.scanKeys d n).evtCount = s.eventWords d n indices ∧
      (s.scanKeys d n).evtCount ≤ 16 := by
  obtain ⟨-, h2, h3, h4⟩ := s.scan_loop d n indices (by decide) (by rw [h]; decide)
  rw [h] at h3 h4
  rw [Nat.zero_add] at h3
  rw [List.take_zero, List.nil_append] at h4
  refine ⟨fun i => h2 i (mem_indices i), h3, h4, ?_⟩
  exact h3 ▸ s.eventWords_length d n indices

/-- A bit of the pressed mask of a keypad read (R111). -/
theorem State.pressedMask_getLsbD (s : State) (i : Fin 16) :
    (pressedMask s.keypadBytes.1 s.keypadBytes.2).getLsbD i.val = s.keyDown i := by
  have h : s.keypadBytes.2 ++ s.keypadBytes.1 = s.kpLines := by
    apply BitVec.eq_of_getLsbD_eq
    intro k hk
    simp only [State.keypadBytes, BitVec.getLsbD_append, BitVec.getLsbD_extractLsb']
    by_cases h8 : k < 8
    · simp [h8]
    · simp [h8, show 8 + (k - 8) = k by omega, show k - 8 < 8 by omega]
  simp [pressedMask, h, State.keyDown]

/-- What the scan makes of key i, in the words of claims (R114). -/
theorem State.keyOut_scan (s : State) (i : Fin 16) :
    s.keyOut (pressedMask s.keypadBytes.1 s.keypadBytes.2) s.clk i =
      ({ s.keys[i] with
          pressed := s.keyDown i
          held := if s.keyEvent i = some .held then true
            else if s.keyEvent i = none then s.keys[i].held else false
          lastPress := if s.keyEvent i = some .pressed then s.clk else s.keys[i].lastPress },
        s.keyEvent i) := by
  unfold State.keyOut
  rw [s.pressedMask_getLsbD]
  unfold keyStep State.keyEvent
  cases hk : s.keys[i] with
  | mk pr he lp dc ac =>
    cases pr <;> cases s.keyDown i <;> simp
    split <;> simp_all

/-- A SCAN whose two bus transactions succeed (R113). -/
theorem scanRule_complete {s : State} (h : s.clkEn = true) (hLed : s.busAnswer = true)
    (hKeypad : s.busAsked.busAnswer = true) :
    scanRule s = ((s.busAsked.busAsked.clearEvents.logLed (.complete s.ledFrame)).scanRead) := by
  simp [scanRule, h, hLed, hKeypad, State.sendLed, State.clearEvents_busAsked, State.logLed_busAsked]

/-- An event word names its key and its kind (R115). -/
theorem eventWord_inj {i j : Fin 16} {k l : EventKind} (h : eventWord i k = eventWord j l) :
    i = j ∧ k = l := by
  revert i j
  cases k <;> cases l <;> decide +kernel

/-- The colour broadcast writes one colour of each key (R120). -/
theorem State.setAllColors_keys (s : State) (sel : ColorSel) (c : Color) (i : Fin 16) :
    (s.setAllColors sel c).keys[i] = s.keys[i].setColor sel c := by
  have loop : ∀ (l : List (Fin 16)) (t : State), l.Nodup →
      (∀ i : Fin 16, i ∉ l → (l.foldl (fun t i => t.setKey i (t.keys[i].setColor sel c)) t).keys[i] = t.keys[i]) ∧
        ∀ i ∈ l, (l.foldl (fun t i => t.setKey i (t.keys[i].setColor sel c)) t).keys[i] =
          t.keys[i].setColor sel c := by
    intro l
    induction l with
    | nil => intro t _; simp
    | cons a l ih =>
      intro t hl
      rw [List.nodup_cons] at hl
      have hk : ∀ i : Fin 16, i ≠ a → (t.setKey a (t.keys[a].setColor sel c)).keys[i] = t.keys[i] := by
        intro i hi
        have : a.val ≠ i.val := fun e => hi (Fin.ext e).symm
        simp [this]
      obtain ⟨i1, i2⟩ := ih (t.setKey a (t.keys[a].setColor sel c)) hl.2
      rw [List.foldl_cons]
      refine ⟨fun i hi => ?_, fun i hi => ?_⟩
      · rw [List.mem_cons, not_or] at hi
        rw [i1 i hi.2, hk i hi.1]
      · rcases List.mem_cons.1 hi with rfl | hm
        · rw [i1 _ hl.1]; simp
        · rw [i2 i hm, hk i fun e => hl.1 (e ▸ hm)]
  exact (loop indices s (by decide)).2 i (mem_indices i)

end Sys2Proof.Machine
end

