-- ==== Sys2Proof/Laws/Step.lean ====
section
/-!
SUPPORT. What a step can do, said once: which agent moves, and for an access which register it reaches
or which operation it issues.
-/

namespace Sys2Proof.Machine

/-- Picking an agent leaves every port's registers as they are. -/
@[simp] theorem State.picked_port (s : State) (p : Port) : s.picked.port p = s.port p := by
  cases p <;> simp [State.port]

/-- A step either finds no agent to move, or performs the picked agent's step. -/
theorem step_cases {s s' : State} (h : step s = .next s') :
    (s.nextAct = none ∧ s' = s.picked) ∨
      ∃ a, s.nextAct = some a ∧ s.picked.perform a = .next s' := by
  unfold step takeStep at h
  split at h
  · next a ha => exact .inr ⟨a, ha, h⟩
  · next ha => exact .inl ⟨ha, by cases h; rfl⟩

/-- What an access can do: read, write a register, issue an operation, or issue an ILLEGAL word. -/
theorem access_cases {s t : State} {x : Access} (h : s.access x = .next t) :
    (x.operation s.cfg = none ∧ x.command s.cfg = none ∧ ∃ v, t = { s with rdata := v }) ∨
      (x.operation s.cfg = none ∧ x.command s.cfg = none ∧ ∃ p r v, t = s.writeReg p r v) ∨
      (∃ p w i, x.operation s.cfg = some (p, i) ∧ x.command s.cfg = some w ∧ decode w = .ok i ∧
        (∃ off, x.place s.cfg = some (p, off)) ∧ exec i (s.onPort p) = .next t) ∨
      ∃ p w why, x.operation s.cfg = none ∧ x.command s.cfg = some w ∧ decode w = .error why ∧
        (∃ off, x.place s.cfg = some (p, off)) ∧ t = dispatchIllegal (s.onPort p) := by
  unfold State.access at h
  cases hp : x.place s.cfg with
  | none =>
    rw [hp] at h
    simp only [Access.stop] at h
    split at h <;> cases h
  | some q =>
    obtain ⟨p, off⟩ := q
    rw [hp] at h
    simp only [Access.operation, Access.command, hp]
    cases x with
    | read w a =>
      simp only [State.accessAt] at h
      cases h
      exact .inl ⟨rfl, rfl, _, rfl⟩
    | write w a v =>
      simp only [State.accessAt] at h
      split at h
      · next hc =>
        simp only [commandOf, hc, if_true]
        unfold State.issueCommand at h
        split at h
        · next i hi => exact .inr (.inr (.inl ⟨p, v, i, by simp [hi], rfl, hi, ⟨off, rfl⟩, h⟩))
        · next e he =>
          cases h
          exact .inr (.inr (.inr ⟨p, v, e, by simp [he], rfl, he, ⟨off, rfl⟩, rfl⟩))
      · next hc =>
        cases h
        have hc' : regAt off ≠ .cmd := fun e => hc e
        exact .inr (.inl ⟨by simp [commandOf, hc'], by simp [commandOf, hc'], p, regAt off, v, rfl⟩)

/-- A field that no read, no register write, no operation and no ILLEGAL word changes is kept by every
access. -/
theorem access_keeps {α : Type} (f : State → α) {s t : State} {x : Access} (h : s.access x = .next t)
    (hRead : ∀ v, f { s with rdata := v } = f s)
    (hWrite : ∀ p r v, f (s.writeReg p r v) = f s)
    (hOp : ∀ p i, x.operation s.cfg = some (p, i) → f (dispatchOp i (ruleOf i) (s.onPort p)) = f s)
    (hIllegal : ∀ p, f (dispatchIllegal (s.onPort p)) = f s) : f t = f s := by
  rcases access_cases h with ⟨-, -, v, rfl⟩ | ⟨-, -, p, r, v, rfl⟩ | ⟨p, w, i, ho, -, -, -, he⟩ |
    ⟨p, w, e, -, -, -, -, rfl⟩
  · exact hRead v
  · exact hWrite p r v
  · rw [exec_eq] at he
    cases he
    exact hOp p i ho
  · exact hIllegal p

/-- A step of a context is an access its role allows, and then the bookkeeping of that role. -/
theorem contextStep_cases {s t : State} {c : Port} {x : Access} (h : s.contextStep c x = .next t) :
    s.roleAllows c x = true ∧
      ∃ u, s.access x = .next u ∧ t = u.noteRole c (x.command s.cfg) := by
  unfold State.contextStep at h
  split at h
  · next hr =>
    refine ⟨hr, ?_⟩
    cases hu : s.access x with
    | next u => rw [hu] at h; cases h; exact ⟨u, rfl, rfl⟩
    | fault r => rw [hu] at h; cases h
    | refused r => rw [hu] at h; cases h
  · cases h

/-- An enabled step. -/
theorem stepIf_next {b : Bool} {t t' : State} (h : stepIf b t = .next t') : b = true ∧ t' = t := by
  cases b with
  | false => cases h
  | true => cases h; exact ⟨rfl, rfl⟩

/-- A step of an agent other than the software contexts. -/
def Act.isEnvironment : Act → Bool
  | .bus _ => false
  | .context _ _ => false
  | _ => true

/-- What every step keeps, said once: a predicate kept by the picking of an agent, by reads and register
writes, by the front end, by each operation's own rule, by the bookkeeping of the roles and by the
environment's steps is kept by every step. -/
theorem step_keeps {s s' : State} (h : step s = .next s') (P : State → Prop) (hPick : ∀ s, P s → P s.picked)
    (hPort : ∀ s p, P s → P (s.onPort p)) (hRead : ∀ s v, P s → P { s with rdata := v })
    (hWrite : ∀ s p r v, P s → P (s.writeReg p r v)) (hResult : ∀ s c, P s → P (s.setResult c))
    (hEarly : ∀ s, P s → P (s.raiseFatal causeStartupOrder))
    (hRule : ∀ i s, s.accepts i = true → P s → P (ruleOf i s))
    (hRole : ∀ s c w, P s → P (s.noteRole c w))
    (hEnv : ∀ u a t, s.nextAct = some a → a.isEnvironment = true → P u → u.perform a = .next t → P t)
    (hs : P s) : P s' := by
  have hAccess : ∀ {u t : State} {x : Access}, P u → u.access x = .next t → P t := by
    intro u t x hu hx
    rcases access_cases hx with ⟨-, -, v, rfl⟩ | ⟨-, -, p, r, v, rfl⟩ | ⟨p, w, i, -, -, -, -, he⟩ |
      ⟨p, w, e, -, -, -, -, rfl⟩
    · exact hRead u v hu
    · exact hWrite u p r v hu
    · have hp := hPort u p hu
      exact exec_cases he P (fun _ _ => hResult _ _ hp) (fun _ _ => hEarly _ hp)
        (fun _ _ _ => hResult _ _ hp) (fun ha => hRule i _ ha hp)
    · have hp := hPort u p hu
      exact dispatchIllegal_cases _ P (fun _ => hResult _ _ hp) (fun _ _ => hEarly _ hp)
        (fun _ _ => hResult _ _ hp)
  rcases step_cases h with ⟨-, rfl⟩ | ⟨a, hn, ha⟩
  · exact hPick s hs
  · cases a with
    | bus x => exact hAccess (hPick s hs) ha
    | context c x =>
      obtain ⟨-, u, hu, rfl⟩ := contextStep_cases ha
      exact hRole u c _ (hAccess (hPick s hs) hu)
    | _ => exact hEnv _ _ _ hn rfl (hPick s hs) ha

/-- The issued operation of a bus step. -/
theorem issues_bus {s : State} {x : Access} (h : s.nextAct = some (.bus x)) :
    s.issues = x.operation s.cfg := by
  simp [State.issues, h]

/-- The issued operation of a context's step. -/
theorem issues_context {s : State} {c : Port} {x : Access} (h : s.nextAct = some (.context c x)) :
    s.issues = x.operation s.cfg := by
  simp [State.issues, h]

end Sys2Proof.Machine
end

