-- ==== Sys2Proof/Tests/Slice0.lean ====
section
/-!
SUPPORT. Tests. Expected values come from spec/95_test_vectors.md (the section is named in each group) and
from the examples of the operations' rules; the last part shows that the hypotheses of every statement can be
met.
-/

namespace Sys2Proof.Tests

open Sys2Proof.Machine

set_option Elab.async false

/-- A property of the next state of an outcome. -/
def after (o : Out) (f : State → Bool) : Bool :=
  match o with
  | .next t => f t
  | .fault _ => false
  | .refused _ => false

/-- Every unit initialised, and every bus transaction succeeding. -/
def booted : State :=
  { State.reset with
    clkEn := true, rngEn := true, qEn := true, usbEn := true, usbIrqEn := true
    busAnswers := [true, true, true, true] }

/-- The same, in the fatal state. -/
def dead : State :=
  { booted with fatal := true, fatalCause := 0x10 }

/-- The same, with operands in P0's registers. -/
def withData (d0 d1 : Word) : State :=
  { booted with p0 := { PortRegs.reset with data0 := d0, data1 := d1 } }

/-- The queue's pointers. -/
def withPointers (w rs r ws : BitVec 5) : State :=
  { booted with wptr := w, rsync := rs, rptr := r, wsync := ws }

/-- Key 3 is down on the lines at clk = 1000 (R113, example). -/
def keyThreeDown : State :=
  { booted with kpLines := 0xFFF7, clk := 1000 }

/-! ## Well-formedness -/

theorem test_wf_standard : Params.standard.wf = true := by decide

theorem test_wf_base_unaligned : ({ Params.standard with blockBase := 0x180 } : Params).wf = false := by
  decide

theorem test_wf_tick_zero : ({ Params.standard with tickNs := 0 } : Params).wf = false := by decide

theorem test_wf_chain_repeats :
    ({ Params.standard with chainMap := Vector.replicate 16 0 } : Params).wf = false := by decide

theorem test_wf_too_many_instances : ({ Params.standard with moreInLen := [8, 8, 8] } : Params).wf = false := by
  decide

theorem test_wf_access_width : (Access.write 2 0x04 7).wf = false := by decide

theorem test_wf_access_misaligned : (Access.write 4 0x02 7).wf = false := by decide

/-! ## Decoding, words of 95_test_vectors.md section 2.1 -/

theorem test_decode_nop : decodeTableWord 32 0x00000000 = some .nop := by decide +kernel
theorem test_decode_init : decodeTableWord 32 0x0100000F = some (.init 0b1111) := by decide +kernel
theorem test_decode_irq_en : decodeTableWord 32 0x02000001 = some (.irqEn true) := by decide +kernel
theorem test_decode_read_ctrl : decodeTableWord 32 0x03000000 = some .readCtrl := by decide +kernel
theorem test_decode_fatal_req : decodeTableWord 32 0x040000FF = some (.fatalReq 0xFF) := by decide +kernel
theorem test_decode_scan : decodeTableWord 32 0x10000000 = some .scan := by decide +kernel
theorem test_decode_evt_read : decodeTableWord 32 0x1100000F = some (.evtRead 15) := by decide +kernel
theorem test_decode_key_read : decodeTableWord 32 0x12000003 = some (.keyRead 3) := by decide +kernel
theorem test_decode_key_color_read : decodeTableWord 32 0x1300000F = some (.keyColorRead 15) := by
  decide +kernel
theorem test_decode_key_set_color :
    decodeTableWord 32 0x14000000 = some (.keySetColor .defColor 0) ∧
      decodeTableWord 32 0x1400001F = some (.keySetColor .actColor 15) := by decide +kernel
theorem test_decode_key_bcast_color :
    decodeTableWord 32 0x14000020 = some (.keyBcastColor .defColor) ∧
      decodeTableWord 32 0x14000030 = some (.keyBcastColor .actColor) := by decide +kernel
theorem test_decode_led : decodeTableWord 32 0x20000000 = some .ledSetBrightness := by decide +kernel
theorem test_decode_clock_entropy :
    decodeTableWord 32 0x30000000 = some .clkRead ∧ decodeTableWord 32 0x31000000 = some .rngRead := by
  decide +kernel
theorem test_decode_queue :
    decodeTableWord 32 0x40000000 = some .qPush ∧ decodeTableWord 32 0x41000000 = some .qPop ∧
      decodeTableWord 32 0x42000000 = some .qLevel := by decide +kernel
theorem test_decode_usb :
    decodeTableWord 32 0x50000000 = some .usbPushKbd ∧ decodeTableWord 32 0x51000000 = some .usbPoll ∧
      decodeTableWord 32 0x52000000 = some .usbStateRead := by decide +kernel

theorem test_decode_illegal :
    ([0x00000001, 0x01000010, 0x02000002, 0x04000100, 0x05000000, 0x10000001, 0x11000010, 0x14000021,
      0x14000040, 0x20000001, 0x32000000, 0x43000000, 0x53000000, 0xFF000000] : List Nat).all
      (fun w => decodeTableWord 32 w == none) = true := by decide +kernel

/-- The OP field of every operation's word, from the opcode map of R74. -/
theorem test_encode_words :
    [Instr.nop, .init 1, .irqEn true, .readCtrl, .fatalReq 0x10, .scan, .evtRead 1, .keyRead 3].map encode =
        [0x00000000, 0x01000001, 0x02000001, 0x03000000, 0x04000010, 0x10000000, 0x11000001, 0x12000003] ∧
      [Instr.keyColorRead 3, .keySetColor .actColor 3, .keyBcastColor .defColor, .ledSetBrightness, .clkRead,
        .rngRead].map encode =
        [0x13000003, 0x14000013, 0x14000020, 0x20000000, 0x30000000, 0x31000000] ∧
      [Instr.qPush, .qPop, .qLevel, .usbPushKbd, .usbPoll, .usbStateRead].map encode =
        [0x40000000, 0x41000000, 0x42000000, 0x50000000, 0x51000000, 0x52000000] := by decide +kernel

/-! ## Issue and the register window, sections 2.9 and 2.10 -/

/-- The first step after reset of a placed command word. -/
theorem test_first_step : after (step (State.reset.withFetchWord 32 0x01000007))
    (fun t => t.clkEn && t.rngEn && t.qEn && !t.usbEn && t.p0.result == .ok) = true := by decide +kernel

theorem test_misaligned_write_refused :
    State.reset.perform (.bus (.write 4 0x02 7)) = .refused .badAccess := rfl

theorem test_outside_window : State.reset.perform (.bus (.read 4 0x300)) = .fault .outsideWindow := rfl

theorem test_port_one_window : after (State.reset.perform (.bus (.write 4 0x104 9)))
    (fun t => t.p1.data0 == 9 && t.p0.data0 == 0) = true := by decide +kernel

theorem test_buf_word : after (State.reset.perform (.bus (.write 4 0x44 0x44434241)))
    (fun t => t.p0.buf[4] == 0x41 && t.p0.buf[5] == 0x42 && t.p0.buf[6] == 0x43 && t.p0.buf[7] == 0x44) =
    true := by decide +kernel

/-- Program C, step 4: ERR_USB_STATE with the line high. -/
theorem test_status : after (({ booted with
    p0 := { PortRegs.reset with result := .errUsbState }, evPending := true } : State).perform
      (.bus (.read 4 0x18))) (fun t => t.rdata == 0x203) = true := by decide +kernel

/-! ## System operations, section 2.9 and R172 to R176 -/

theorem test_nop_when_fatal : after (exec .nop dead) (fun t => t.p0.result == .ok) = true := by
  decide +kernel

theorem test_nop_p2_uninitialised : after (exec .nop (({ dead with qEn := false } : State).onPort .p2))
    (fun t => t.p2.result == .errFatal && t.fatalCause == 0x10) = true := by decide +kernel

theorem test_init_from_p1 : after (exec (.init 1) (State.reset.onPort .p1))
    (fun t => t.p1.result == .errIllegal && !t.clkEn) = true := by decide +kernel

theorem test_init_again : after (exec (.init 1) { booted with clk := 5 })
    (fun t => t.p0.result == .ok && t.clk == 5 && t.clkEn) = true := by decide +kernel

theorem test_irq_en_before_usb : after (exec (.irqEn true) State.reset)
    (fun t => t.p0.result == .errFatal && t.fatal && t.fatalCause == 0x03 && !t.usbIrqEn) = true := by
  decide +kernel

theorem test_irq_en_raises_line : after (exec (.irqEn true) { booted with usbIrqEn := false, evPending := true })
    (fun t => t.irq && t.p0.result == .ok) = true := by decide +kernel

theorem test_read_ctrl_after_boot : after (exec .readCtrl booted)
    (fun t => t.p0.resp0 == 0x1F && t.p0.resp1 == 0x00 && t.p0.resp2 == 0) = true := by decide +kernel

/-- Program D, step 5. -/
theorem test_read_ctrl_when_fatal : after
    (exec .readCtrl { State.reset with clkEn := true, fatal := true, fatalCause := 0x03 })
    (fun t => t.p0.resp0 == 0x01 && t.p0.resp1 == 0x103 && t.p0.result == .ok) = true := by decide +kernel

theorem test_fatal_req : after (exec (.fatalReq 0x10) (booted.onPort .p2))
    (fun t => t.fatal && t.fatalCause == 0x10 && t.p2.result == .errFatal) = true := by decide +kernel

theorem test_fatal_req_low : after (exec (.fatalReq 0x0F) (booted.onPort .p2))
    (fun t => !t.fatal && t.p2.result == .errIllegal) = true := by decide +kernel

/-! ## Scanner and keys, sections 1.3, 2.4 and 2.5 -/

theorem test_scan_example : after (exec .scan keyThreeDown)
    (fun t => t.p0.resp0 == 1 && t.evt[0] == 0x13 && t.keys[3] == ⟨true, false, 1000, 0, 0⟩ &&
      t.ledLog.length == 1 && t.p0.result == .ok) = true := by decide +kernel

/-- 0xFFFE before, 0x7FFF at the SCAN: Released(0), Pressed(15), in index order. -/
theorem test_scan_order : after
    (exec .scan { booted with kpLines := 0x7FFF, keys := booted.keys.set 0 ⟨true, false, 0, 0, 0⟩ })
    (fun t => t.evtCount == 2 && t.evt[0] == 0x30 && t.evt[1] == 0x1F) = true := by decide +kernel

/-- Key 5: one tick short of the threshold, on it, across the wrap of the clock, and a release. -/
theorem test_key_state_machine :
    keyStep 750000 ⟨true, false, 100, 0, 0⟩ true 750099 = (⟨true, false, 100, 0, 0⟩, none) ∧
      keyStep 750000 ⟨true, false, 100, 0, 0⟩ true 750100 = (⟨true, true, 100, 0, 0⟩, some .held) ∧
      keyStep 750000 ⟨true, false, 0 - 10, 0, 0⟩ true 749990 =
        (⟨true, true, 0 - 10, 0, 0⟩, some .held) ∧
      keyStep 750000 ⟨true, true, 100, 0, 0⟩ false 800000 =
        (⟨false, false, 100, 0, 0⟩, some .released) := by decide +kernel

theorem test_hold_ticks : holdTicks Params.standard = 750000 ∧
    holdTicks { Params.standard with tickNs := 7 } = 107142858 := by decide +kernel

theorem test_evt_read : after (exec (.evtRead 0) { booted with evtCount := 1, evt := booted.evt.set 0 0x13 })
    (fun t => t.p0.resp0 == 0x13 && t.p0.result == .ok) = true := by decide +kernel

theorem test_evt_read_past : after (exec (.evtRead 1) { booted with evtCount := 1 })
    (fun t => t.p0.resp0 == 0 && t.p0.result == .errRange) = true := by decide +kernel

theorem test_key_read : after (exec (.keyRead 3) { booted with keys := booted.keys.set 3 ⟨true, true, 2000, 0, 0⟩ })
    (fun t => t.p0.resp0 == 3 && t.p0.resp1 == 2000 && t.p0.resp2 == 0) = true := by decide +kernel

theorem test_key_color_read : after
    (exec (.keyColorRead 3) { booted with keys := booted.keys.set 3 ⟨true, false, 0, 0x102030, 0xFF0000⟩ })
    (fun t => t.p0.resp0 == 0x102030 && t.p0.resp1 == 0xFF0000) = true := by decide +kernel

theorem test_key_set_color : after (exec (.keySetColor .actColor 2) (withData 0x12345678 0))
    (fun t => t.keys[2] == ⟨false, false, 0, 0, 0x345678⟩ && t.keys[3] == Key.reset) = true := by
  decide +kernel

theorem test_key_set_color_p1 : after (exec (.keySetColor .actColor 2) (booted.onPort .p1))
    (fun t => t.p1.result == .errIllegal && t.keys[2] == Key.reset) = true := by decide +kernel

theorem test_key_bcast_color : after (exec (.keyBcastColor .actColor) (withData 0x0000FF 0))
    (fun t => t.keys == Vector.replicate 16 ⟨false, false, 0, 0, 0x0000FF⟩) = true := by decide +kernel

/-! ## LED strip, sections 2.2, 2.3 and 3.5 -/

theorem test_level : [0x00000000, 0x80000000, 0x00000001, 0x3DCCCCCD, 0x3E800000, 0x3F000000, 0x3F7FBE77,
    0x3F7FFFFF, 0x3F800000, 0x40000000, 0xBF800000].map level = [0, 0, 0, 3, 7, 15, 30, 30, 31, 31, 0] := by
  decide +kernel

theorem test_level_edges : [0x7F800000, 0xFF800000, 0x7FC00000, 0x7F800001, 0x3D042108, 0x3D042107,
    0x3F14A529, 0x3F14A528].map level = [31, 0, 0, 0, 1, 0, 18, 17] := by decide +kernel

/-- Every threshold of section 2.2 and the pattern one below it. -/
theorem test_level_thresholds : ∀ k : Fin 31, level levelThresholds[k] = BitVec.ofNat 5 (k.val + 1) ∧
    level (levelThresholds[k] - 1) = BitVec.ofNat 5 k.val := by decide +kernel

theorem test_brightness : after (exec .ledSetBrightness (withData 0x3F000000 0))
    (fun t => t.brightLevel == 15 && t.brightByte == 0xEF) = true := by decide +kernel

/-- Frame 2 of program E. -/
theorem test_frame :
    ({ booted with
        brightLevel := 15
        keys := (Vector.replicate 16 (⟨false, false, 0, 0x102030, 0⟩ : Key)).set 3
          ⟨true, false, 0, 0x102030, 0xFF0000⟩ } : State).ledFrame =
      [0, 0, 0, 0] ++ (List.replicate 3 [0xEF, 0x30, 0x20, 0x10]).flatten ++ [0xEF, 0x00, 0x00, 0xFF] ++
        (List.replicate 12 [0xEF, 0x30, 0x20, 0x10]).flatten ++ [0xFF, 0xFF, 0xFF, 0xFF] := by decide +kernel

/-- CHAIN_MAP = reversal, key 15 def 0x0000FF. -/
theorem test_frame_chain :
    (({ booted with
        cfg := { Params.standard with
          chainMap := #v[15, 14, 13, 12, 11, 10, 9, 8, 7, 6, 5, 4, 3, 2, 1, 0] }
        keys := booted.keys.set 15 ⟨false, false, 0, 0x0000FF, 0⟩ } : State).ledFrame.drop 4).take 8 =
      [0xE0, 0xFF, 0x00, 0x00, 0xE0, 0x00, 0x00, 0x00] := by decide +kernel

/-! ## Clock and entropy, section 2.6 -/

theorem test_clk_read : after (exec .clkRead { booted with clk := 0x0000000100000005 })
    (fun t => t.p0.resp0 == 5 && t.p0.resp1 == 1 && t.p0.result == .ok) = true := by decide +kernel

theorem test_clk_read_not_init : after (exec .clkRead State.reset)
    (fun t => t.p0.result == .errNotInit) = true := by decide +kernel

theorem test_tick_carry : after (({ booted with clk := 0xFFFFFFFF } : State).perform .tick)
    (fun t => t.clk == 0x100000000) = true := by decide +kernel

/-- TICK is enabled only while clk_en = 1 (R90). -/
theorem test_tick_not_enabled : State.reset.perform .tick = .refused .notEnabled := rfl

theorem test_rng_single : after
    (exec .rngRead { withData 5 6 with jitterAnswers := [0xDEADBEEF] })
    (fun t => t.p0.resp0 == 5 && t.p0.result == .ok) = true := by decide +kernel

theorem test_rng_empty : after (exec .rngRead (withData 6 6))
    (fun t => t.p0.resp0 == 0 && t.p0.result == .errRange) = true := by decide +kernel

/-! ## Queue, section 2.7 -/

theorem test_q_push_wrap : after (exec .qPush (withPointers 31 16 16 16))
    (fun t => t.wptr == 0 && t.p0.result == .ok) = true := by decide +kernel

theorem test_q_push_drop : after (exec .qPush (withPointers 0 16 16 0))
    (fun t => t.wptr == 0 && t.p0.result == .ok) = true := by decide +kernel

theorem test_q_pop : after (exec .qPop (({ withPointers 1 0 0 1 with
      qMem := booted.qMem.set 0 (entryOfBytes [1]) } : State).onPort .p2))
    (fun t => t.rptr == 1 && t.p2.resp0 == 1 && t.p2.buf == entryOfBytes [1] && t.p2.result == .ok) = true := by
  decide +kernel

theorem test_q_pop_stale : after (exec .qPop ((withPointers 1 0 0 0).onPort .p2))
    (fun t => t.rptr == 0 && t.p2.resp0 == 0 && t.p2.result == .empty) = true := by decide +kernel

theorem test_q_level : after (exec .qLevel (withPointers 5 2 3 4)) (fun t => t.p0.resp0 == 3) = true ∧
    after (exec .qLevel ((withPointers 5 2 3 4).onPort .p2)) (fun t => t.p2.resp0 == 1) = true := by
  decide +kernel

/-- Panic "Hi" and Home, layer 2, "Base", colour 0x00FF00. -/
theorem test_entry_layout :
    bufWord (DisplayCommand.panic [0x48, 0x69]).entry 0 = 0x00000202 ∧
      bufWord (DisplayCommand.panic [0x48, 0x69]).entry 1 = 0x00006948 ∧
      bufWord (DisplayCommand.home 2 [0x42, 0x61, 0x73, 0x65] 0x00FF00).entry 0 = 0x00020403 ∧
      bufWord (DisplayCommand.home 2 [0x42, 0x61, 0x73, 0x65] 0x00FF00).entry 1 = 0x65736142 ∧
      bufWord (DisplayCommand.home 2 [0x42, 0x61, 0x73, 0x65] 0x00FF00).entry 5 = 0x0000FF00 := by
  decide +kernel

theorem test_consumer_action :
    consumerAction (entryOfBytes [2, 64]) = .render ∧ consumerAction (entryOfBytes [2, 65]) = .requestFatal ∧
      consumerAction (entryOfBytes [6]) = .requestFatal := by decide +kernel

/-! ## USB, sections 2.8 and 3.3 -/

theorem test_usb_push : after (exec .usbPushKbd { withData 0x00040002 0 with configured := true })
    (fun t => t.p0.resp0 == 8 && t.kbd.inFull && t.kbd.inBuf == [2, 0, 4, 0, 0, 0, 0, 0] &&
      !t.evPending) = true := by decide +kernel

theorem test_usb_push_would_block : after (exec .usbPushKbd { withData 7 7 with
      configured := true, kbd := ⟨true, [1, 2, 3, 4, 5, 6, 7, 8], false⟩ })
    (fun t => t.p0.result == .wouldBlock && t.p0.resp0 == 0 && t.kbd.inBuf == [1, 2, 3, 4, 5, 6, 7, 8]) =
    true := by decide +kernel

theorem test_usb_poll : after (exec .usbPoll (({ booted with
      ctrlPending := true, evPending := true, kbd := { booted.kbd with outPending := true } } : State).onPort .p1))
    (fun t => t.p1.resp0 == 0x101 && t.configured && !t.ctrlPending && !t.kbd.outPending && !t.evPending) =
    true := by decide +kernel

theorem test_usb_state_read : after (exec .usbStateRead { booted with
      configured := true, evPending := true, kbd := { booted.kbd with inFull := true } })
    (fun t => t.p0.resp0 == 0x105) = true := by decide +kernel

theorem test_host_take : after (({ booted with
      configured := true, kbd := ⟨true, [2, 0, 4, 0, 0, 0, 0, 0], false⟩ } : State).perform (.hostTake 0))
    (fun t => t.hostLog == [(0, [2, 0, 4, 0, 0, 0, 0, 0])] && !t.kbd.inFull && t.evPending) = true := by
  decide +kernel

theorem test_host_reset : after (({ booted with
      configured := true, kbd := ⟨true, [2, 0, 4, 0, 0, 0, 0, 0], false⟩ } : State).perform .hostReset)
    (fun t => !t.configured && !t.kbd.inFull && t.kbd.inBuf == [0, 0, 0, 0, 0, 0, 0, 0] && t.evPending) =
    true := by decide +kernel

/-! ## Pseudo-instructions, R79 -/

theorem test_pseudo_boot : Pseudo.boot.writes =
    [(.cmd, 0x01000007), (.cmd, 0x01000008), (.cmd, 0x02000001)] := by decide +kernel

theorem test_pseudo_push_kbd : (Pseudo.pushKbd #v[2, 0, 4, 0, 0, 0, 0, 0]).writes =
    [(.data0, 0x00040002), (.data1, 0), (.cmd, 0x50000000)] := by decide +kernel

/-! ## The hypotheses of every statement can be met -/

/-- A state whose next step is the write of a command word to a port's CMD. -/
def issueNext (s : State) (p : Port) (w : Word) : State :=
  { s with agenda := [.bus (writeAccess s.cfg p .cmd w)] }

/-- The state after a SCAN. -/
def scanned (s : State) : State :=
  match exec .scan s with
  | .next t => t
  | .fault _ => s
  | .refused _ => s

theorem scanned_eq (s : State) : exec .scan s = .next (scanned s) := rfl

/-- The state after a step. -/
def stepped (s : State) : State :=
  match step s with
  | .next t => t
  | .fault _ => s
  | .refused _ => s

theorem stepped_eq {s : State} (h : after (step s) (fun _ => true) = true) : step s = .next (stepped s) := by
  unfold stepped
  cases hs : step s with
  | next t => rfl
  | fault r => rw [hs] at h; cases h
  | refused r => rw [hs] at h; cases h

theorem witness_DecodeIsTheMatchingRow :
    (∃ r ∈ opcodeMap, r.holds 0x00000000 = true) ∧ ∀ r ∈ opcodeMap, r.holds 0x05000000 = false := by
  decide +kernel

theorem witness_DecodeAndEncodeAgree : decode 0x14000030 = .ok (.keyBcastColor .actColor) := rfl

theorem witness_StepRunsTheDecodedOperation :
    (issueNext booted .p2 0x41000000).cfg.wf = true ∧
      (issueNext booted .p2 0x41000000).agenda =
        .bus (writeAccess (issueNext booted .p2 0x41000000).cfg .p2 .cmd 0x41000000) :: [] ∧
      decode 0x41000000 = .ok .qPop := ⟨by decide, rfl, rfl⟩

theorem witness_IllegalWordOnlyWritesResult :
    decode 0x05000000 = .error .reservedOpcode ∧ booted.fatal = false ∧
      (Port.p2 = .p2 → booted.clkEn = true ∧ booted.qEn = true) := ⟨rfl, rfl, fun _ => ⟨rfl, rfl⟩⟩

theorem witness_FatalBlockIsInert :
    dead.fatal = true ∧ decode 0x05000000 ≠ .ok .nop ∧ decode 0x05000000 ≠ .ok .readCtrl := by
  have h : decode 0x05000000 = .error .reservedOpcode := rfl
  rw [h]
  exact ⟨rfl, nofun, nofun⟩

theorem witness_RendererBeforeInitIsFatal :
    (State.reset.clkEn = false ∨ State.reset.qEn = false) ∧
      (({ booted with qEn := false } : State).clkEn = false ∨ ({ booted with qEn := false } : State).qEn = false) := by
  decide

theorem witness_WrongPortIsIllegal :
    (booted.onPort .p2).issuing ∉ Instr.ports .scan ∧ (booted.onPort .p2).fatal = false ∧
      ((booted.onPort .p2).issuing = .p2 →
        (booted.onPort .p2).clkEn = true ∧ (booted.onPort .p2).qEn = true) := by decide

theorem witness_NopOnlyWritesResult :
    (0x00000001 : Word).extractLsb' 24 8 = 0 ∧ (0x00000001 : Word) ≠ 0 ∧
      dead.fatal = true ∧ ((dead.onPort .p2).issuing = .p2 →
        (dead.onPort .p2).clkEn = true ∧ (dead.onPort .p2).qEn = true) ∧
      State.reset.issuing ≠ .p2 := by decide

theorem witness_InitSetsEnableBits :
    State.reset.accepts (.init 0b1111) = true ∧
      step { booted with agenda := [.hostReset] } = .next (stepped { booted with agenda := [.hostReset] }) ∧
      ({ booted with agenda := [.hostReset] } : State).nextAct ≠ some .reset ∧
      (booted.clkEn && booted.rngEn && booted.qEn && booted.usbEn) = true :=
  ⟨by decide, stepped_eq (by decide +kernel), by decide, by decide⟩

theorem witness_IrqEnNeedsUsb :
    (State.reset.accepts (.irqEn true) = true ∧ State.reset.accepts (.irqEn false) = true ∧
        State.reset.usbEn = false) ∧
      booted.accepts (.irqEn true) = true ∧ booted.accepts (.irqEn false) = true ∧ booted.usbEn = true := by
  decide

theorem witness_ReadCtrlShowsControlState :
    dead.fatal = true ∧ ((dead.onPort .p2).issuing = .p2 →
      (dead.onPort .p2).clkEn = true ∧ (dead.onPort .p2).qEn = true) ∧ State.reset.issuing ≠ .p2 := by decide

theorem witness_FatalReqRaisesItsCause :
    booted.accepts (.fatalReq 0x0F) = true ∧ (0x0F : BitVec 8).toNat < 0x10 ∧
      booted.accepts (.fatalReq 0x10) = true ∧ 0x10 ≤ (0x10 : BitVec 8).toNat := by decide

theorem witness_ClkReadReturnsOneSnapshot :
    (State.reset.accepts .clkRead = true ∧ State.reset.clkEn = false) ∧
      booted.accepts .clkRead = true ∧ booted.clkEn = true := by decide

theorem witness_RngReadStaysInRange :
    (State.reset.accepts .rngRead = true ∧ State.reset.rngEn = false) ∧
      ((withData 6 6).accepts .rngRead = true ∧ (withData 6 6).rngEn = true ∧
        (withData 6 6).regs.data1.toNat ≤ (withData 6 6).regs.data0.toNat) ∧
      (withData 5 6).accepts .rngRead = true ∧ (withData 5 6).rngEn = true ∧
        (withData 5 6).regs.data0.toNat < (withData 5 6).regs.data1.toNat := by decide

theorem witness_ClockMovesOnlyByTick :
    step { booted with agenda := [.tick] } = .next (stepped { booted with agenda := [.tick] }) ∧
      ({ booted with agenda := [.tick] } : State).nextAct ≠ some .reset ∧
      (stepped { booted with agenda := [.tick] }).clk = 1 :=
  ⟨stepped_eq (by decide +kernel), by decide, by decide +kernel⟩

theorem witness_LedSetBrightnessWritesLevel :
    booted.accepts .ledSetBrightness = true ∧ 0x7F800000#31 < (0x7F800001 : Word).setWidth 31 ∧
      (0x80000000 : Word).getLsbD 31 = true ∧ 0x3F800000#32 ≤ (0x3F800000 : Word) ∧
      (0x7F800000 : Word) ≤ 0x7F800000#32 ∧ (0x007FFFFF : Word) ≤ 0x007FFFFF#32 := by decide

theorem witness_LevelIsMonotone :
    (0x3D042107 : Word) ≤ 0x3D042108 ∧ (0x3D042108 : Word) ≤ 0x7F800000#32 ∧
      levelThresholds[(30 : Fin 31)] ≤ (0x7F800000 : Word) ∧
      ¬levelThresholds[(0 : Fin 31)] ≤ (0x3D042107 : Word) := by decide

theorem witness_ScanStopsOnFailures :
    (State.reset.accepts .scan = true ∧ State.reset.clkEn = false) ∧
      (booted.accepts .scan = true ∧ booted.clkEn = true ∧
        ({ booted with busAnswers := [false] } : State).busAnswer = false) ∧
      ({ booted with busAnswers := [true, false] } : State).busAnswer = true ∧
        ({ booted with busAnswers := [true, false] } : State).busAsked.busAnswer = false := by decide

theorem witness_ScanCompletes :
    keyThreeDown.accepts .scan = true ∧ keyThreeDown.clkEn = true ∧ keyThreeDown.busAnswer = true ∧
      keyThreeDown.busAsked.busAnswer = true := by decide

/-- The lines at a first scan. -/
def firstScan (a : BitVec 16) : State :=
  { booted with kpLines := a }

/-- The state and the lines at the next scan: key 3 as the first scan left it. -/
def nextScan (a b : BitVec 16) : State :=
  { booted with kpLines := b, keys := booted.keys.set 3 ⟨a != 0xFFFF, false, 0, 0, 0⟩ }

/-- Two scans with key 3 up or down at each: all four cases. -/
theorem witness_EventsFollowTransitions (a b : BitVec 16) :
    exec .scan (firstScan a) = .next (scanned (firstScan a)) ∧
      exec .scan (nextScan a b) = .next (scanned (nextScan a b)) ∧
      (firstScan a).accepts .scan = true ∧ (nextScan a b).accepts .scan = true :=
  ⟨scanned_eq _, scanned_eq _, rfl, rfl⟩

theorem witness_EventsFollowTransitions_first :
    (firstScan 0xFFFF).keyDown 3 = false ∧ (firstScan 0xFFF7).keyDown 3 = true ∧
      (scanned (firstScan 0xFFFF)).p0.result = .ok ∧ (scanned (firstScan 0xFFF7)).p0.result = .ok ∧
      (scanned (firstScan 0xFFFF)).keys[(3 : Fin 16)].pressed = false ∧
      (scanned (firstScan 0xFFF7)).keys[(3 : Fin 16)].pressed = true := by decide +kernel

theorem witness_EventsFollowTransitions_next :
    (nextScan 0xFFFF 0xFFF7).keys[(3 : Fin 16)].pressed = false ∧
      (nextScan 0xFFF7 0xFFF7).keys[(3 : Fin 16)].pressed = true ∧
      (nextScan 0xFFFF 0xFFFF).keyDown 3 = false ∧ (nextScan 0xFFFF 0xFFF7).keyDown 3 = true ∧
      (scanned (nextScan 0xFFFF 0xFFFF)).p0.result = .ok ∧
      (scanned (nextScan 0xFFFF 0xFFF7)).p0.result = .ok ∧
      (scanned (nextScan 0xFFF7 0xFFFF)).p0.result = .ok ∧
      (scanned (nextScan 0xFFF7 0xFFF7)).p0.result = .ok := by decide +kernel

/-- Key 3 was pressed at clk = 2000 and is still down at 762000 (95_test_vectors.md section 1.3). -/
def heldThree : State :=
  { booted with kpLines := 0xFFF7, clk := 762000, keys := booted.keys.set 3 ⟨true, false, 2000, 0, 0⟩ }

theorem witness_HeldNeedsTheThreshold :
    heldThree.cfg.wf = true ∧ heldThree.accepts .scan = true ∧ exec .scan heldThree = .next (scanned heldThree) ∧
      (scanned heldThree).p0.result = .ok ∧ eventWord 3 .held ∈ (scanned heldThree).events :=
  ⟨by decide, by decide, rfl, by decide +kernel, by decide +kernel⟩

theorem witness_EvtReadReturnsTheSlot :
    booted.accepts (.evtRead 1) = true ∧ ({ booted with evtCount := 1 } : State).evtCount ≤ (1 : Fin 16).val ∧
      booted.accepts (.evtRead 0) = true ∧ (0 : Fin 16).val < ({ booted with evtCount := 1 } : State).evtCount := by
  decide

theorem witness_KeyReadReturnsTheKey : booted.accepts (.keyRead 15) = true := by decide

theorem witness_KeyColorReadReturnsColors : booted.accepts (.keyColorRead 15) = true := by decide

theorem witness_KeySetColorWritesOneColor :
    booted.accepts (.keySetColor .defColor 15) = true ∧ booted.accepts (.keySetColor .actColor 15) = true := by
  decide

theorem witness_KeyBcastColorWritesAllKeys :
    booted.accepts (.keyBcastColor .defColor) = true ∧ booted.accepts (.keyBcastColor .actColor) = true := by
  decide

theorem witness_KeysAreWrittenByTheScannerOnly :
    step (issueNext (withData 7 0) .p0 0x14000012) = .next (stepped (issueNext (withData 7 0) .p0 0x14000012)) ∧
      (stepped (issueNext (withData 7 0) .p0 0x14000012)).keys ≠ (issueNext (withData 7 0) .p0 0x14000012).keys :=
  ⟨stepped_eq (by decide +kernel), by decide +kernel⟩

theorem witness_QPushStoresOrDrops :
    (State.reset.accepts .qPush = true ∧ State.reset.qEn = false) ∧
      ((withPointers 16 0 0 0).accepts .qPush = true ∧ (withPointers 16 0 0 0).qEn = true ∧
        ((withPointers 16 0 0 0).wptr - (withPointers 16 0 0 0).rsync).toNat = 16) ∧
      (withPointers 15 0 0 0).accepts .qPush = true ∧ (withPointers 15 0 0 0).qEn = true ∧
        ((withPointers 15 0 0 0).wptr - (withPointers 15 0 0 0).rsync).toNat ≠ 16 := by decide

theorem witness_QPopReturnsTheOldest :
    (((withPointers 1 0 0 0).onPort .p2).accepts .qPop = true ∧
        ((withPointers 1 0 0 0).onPort .p2).rptr = ((withPointers 1 0 0 0).onPort .p2).wsync) ∧
      ((withPointers 1 0 0 1).onPort .p2).accepts .qPop = true ∧
        ((withPointers 1 0 0 1).onPort .p2).rptr ≠ ((withPointers 1 0 0 1).onPort .p2).wsync := by decide

theorem witness_QLevelReturnsTheView :
    (State.reset.accepts .qLevel = true ∧ State.reset.qEn = false) ∧
      (booted.accepts .qLevel = true ∧ booted.qEn = true ∧ booted.issuing ≠ .p2) ∧
      (booted.onPort .p2).accepts .qLevel = true ∧ (booted.onPort .p2).qEn = true ∧
        (booted.onPort .p2).issuing = .p2 := by decide

theorem witness_PointersHaveOneWriter :
    (step (issueNext booted .p1 0x40000000) = .next (stepped (issueNext booted .p1 0x40000000)) ∧
        (issueNext booted .p1 0x40000000).nextAct ≠ some .reset ∧
        (stepped (issueNext booted .p1 0x40000000)).wptr ≠ (issueNext booted .p1 0x40000000).wptr) ∧
      step (issueNext (withPointers 1 0 0 1) .p2 0x41000000) =
          .next (stepped (issueNext (withPointers 1 0 0 1) .p2 0x41000000)) ∧
        (issueNext (withPointers 1 0 0 1) .p2 0x41000000).nextAct ≠ some .reset ∧
        (stepped (issueNext (withPointers 1 0 0 1) .p2 0x41000000)).rptr ≠
          (issueNext (withPointers 1 0 0 1) .p2 0x41000000).rptr :=
  ⟨⟨stepped_eq (by decide +kernel), by decide +kernel, by decide +kernel⟩,
    stepped_eq (by decide +kernel), by decide +kernel, by decide +kernel⟩

theorem witness_EveryStepKeepsTheQueueInvariant :
    QueueInv (issueNext (withPointers 15 0 0 0) .p0 0x40000000) ∧
      step (issueNext (withPointers 15 0 0 0) .p0 0x40000000) =
        .next (stepped (issueNext (withPointers 15 0 0 0) .p0 0x40000000)) ∧
      (stepped (issueNext (withPointers 15 0 0 0) .p0 0x40000000)).wptr = 16 :=
  ⟨⟨by decide, by decide, by decide, by decide⟩, stepped_eq (by decide +kernel), by decide +kernel⟩

/-- A push on P0, a SYNC W, and a pop on P2. -/
def pushThenPop : State :=
  { booted with
    p0 := { PortRegs.reset with buf := entryOfBytes [1] }
    agenda := [.bus (writeAccess booted.cfg .p0 .cmd 0x40000000), .syncW,
      .bus (writeAccess booted.cfg .p2 .cmd 0x41000000)] }

/-- The run of a state. -/
def runOf (s : State) : Nat → State
  | 0 => s
  | n + 1 => stepped (runOf s n)

theorem witness_QueueIsFirstInFirstOut_step :
    QueueInv (issueNext (withPointers 16 1 1 2) .p2 0x41000000) ∧
      step (issueNext (withPointers 16 1 1 2) .p2 0x41000000) =
        .next (stepped (issueNext (withPointers 16 1 1 2) .p2 0x41000000)) ∧
      (issueNext (withPointers 16 1 1 2) .p2 0x41000000).nextAct ≠ some .reset ∧
      (returnedEntries (issueNext (withPointers 16 1 1 2) .p2 0x41000000)
        (stepped (issueNext (withPointers 16 1 1 2) .p2 0x41000000))).length = 1 ∧
      (issueNext (withPointers 16 1 1 2) .p2 0x41000000).contents.length = 15 :=
  ⟨⟨by decide, by decide, by decide, by decide⟩, stepped_eq (by decide +kernel), by decide,
    by decide +kernel, by decide +kernel⟩

theorem witness_QueueIsFirstInFirstOut :
    QueueInv (runOf pushThenPop 0) ∧ (runOf pushThenPop 0).contents = [] ∧ RunsFor (runOf pushThenPop) 3 ∧
      NoReset (runOf pushThenPop) 3 ∧ returnedUpTo (runOf pushThenPop) 3 = [entryOfBytes [1]] := by
  have h : ∀ k < 3, after (step (runOf pushThenPop k)) (fun _ => true) = true := by decide +kernel
  have h' : ∀ k < 3, (runOf pushThenPop k).nextAct ≠ some .reset := by decide +kernel
  exact ⟨⟨by decide, by decide, by decide, by decide⟩, by decide +kernel,
    fun k hk => stepped_eq (h k hk), h', by decide +kernel⟩

theorem witness_UsbPushQueuesOneReport :
    (State.reset.accepts .usbPushKbd = true ∧ State.reset.usbEn = false) ∧
      (booted.accepts .usbPushKbd = true ∧ booted.usbEn = true ∧ booted.configured = false) ∧
      (({ booted with configured := true, kbd := ⟨true, [], false⟩ } : State).accepts .usbPushKbd = true ∧
        ({ booted with configured := true, kbd := ⟨true, [], false⟩ } : State).kbd.inFull = true) ∧
      ({ booted with configured := true } : State).accepts .usbPushKbd = true ∧
        ({ booted with configured := true } : State).kbd.inFull = false := by decide

theorem witness_UsbPollServicesTheController :
    ((({ booted with usbEn := false } : State).onPort .p1).accepts .usbPoll = true ∧
        (({ booted with usbEn := false } : State).onPort .p1).usbEn = false) ∧
      (booted.onPort .p1).accepts .usbPoll = true ∧ (booted.onPort .p1).usbEn = true ∧
        (booted.onPort .p1).hid.length ≤ 3 := by decide

theorem witness_UsbStateReadShowsTheFlags :
    (State.reset.accepts .usbStateRead = true ∧ State.reset.usbEn = false) ∧
      booted.accepts .usbStateRead = true ∧ booted.usbEn = true ∧
        ({ booted with moreHid := [HidInstance.reset 2, HidInstance.reset 1] } : State).hid.length ≤ 3 := by
  decide

/-- A configured device with a report the host has not taken and an event. -/
def queued : State :=
  { booted with configured := true, evPending := true, kbd := ⟨true, [2, 0, 4, 0, 0, 0, 0, 0], false⟩ }

theorem witness_ReportsReachTheHostInOrder :
    (step { queued with agenda := [.hostTake 0] } = .next (stepped { queued with agenda := [.hostTake 0] }) ∧
        ({ queued with agenda := [.hostTake 0] } : State).nextAct ≠ some .hostReset ∧
        ({ queued with agenda := [.hostTake 0] } : State).nextAct ≠ some .reset) ∧
      step (issueNext { booted with configured := true } .p0 0x50000000) =
          .next (stepped (issueNext { booted with configured := true } .p0 0x50000000)) ∧
        (stepped (issueNext { booted with configured := true } .p0 0x50000000)).reports ≠
          (issueNext { booted with configured := true } .p0 0x50000000).reports :=
  ⟨⟨stepped_eq (by decide +kernel), by decide, by decide⟩, stepped_eq (by decide +kernel), by decide +kernel⟩

theorem witness_HostStepsFollowTheirRules :
    (booted.usbEn = true ∧ booted.configured = false ∧ booted.ctrlPending = false) ∧
      State.reset.usbEn = false ∧
      (queued.usbEn = true ∧ queued.configured = true ∧
        queued.hid[0]? = some ⟨true, [2, 0, 4, 0, 0, 0, 0, 0], false⟩) ∧
      (({ queued with moreHid := [⟨true, [1], false⟩] } : State).hid[1]? = some ⟨true, [1], false⟩ ∧
        ({ queued with moreHid := [⟨true, [1], false⟩] } : State).hid[2]? = none) := by decide

theorem witness_EventIsClearedOnlyByPoll :
    step (issueNext queued .p1 0x51000000) = .next (stepped (issueNext queued .p1 0x51000000)) ∧
      (issueNext queued .p1 0x51000000).evPending = true ∧
      (stepped (issueNext queued .p1 0x51000000)).evPending = false :=
  ⟨stepped_eq (by decide +kernel), by decide, by decide +kernel⟩

theorem witness_HandlerEntersOnTheLine :
    (queued.evPending = true ∧ queued.usbIrqEn = true ∧ queued.handler = .idle) ∧ booted.evPending = false ∧
      ({ queued with handler := .inIsr false false } : State).handler ≠ .idle := by decide

theorem witness_RendererDrawsWhatItPops :
    ((withPointers 1 0 0 1).cfg.wf = true ∧ (withPointers 1 0 0 1).renderer = .idle ∧
        (withPointers 1 0 0 1).fatal = false ∧ (withPointers 1 0 0 1).clkEn = true ∧
        (withPointers 1 0 0 1).qEn = true ∧ (withPointers 1 0 0 1).rptr ≠ (withPointers 1 0 0 1).wsync) ∧
      ∃ t, ({ booted with renderer := .drawing (entryOfBytes [2, 64]) false } : State).perform .renderDone =
        .next t := ⟨by decide, _, rfl⟩

theorem witness_RendererReachesOnlyTheQueue :
    ((withPointers 1 0 0 1).onPort .p2).issuing = .p2 ∧
      ∃ t, exec .qPop ((withPointers 1 0 0 1).onPort .p2) = .next t := ⟨rfl, _, rfl⟩

theorem witness_EntryLayoutRoundTrip :
    (List.replicate 64 (0xFF : Byte)).length ≤ 64 ∧ (List.replicate 16 (0x41 : Byte)).length ≤ 16 := by decide

theorem witness_OperandWordsReadBack :
    (Reg.buf 16 = .data0 ∨ Reg.buf 16 = .data1 ∨ ∃ k, Reg.buf 16 = .buf k) ∧
      (Port.p1, Reg.buf 16) ≠ (Port.p0, Reg.buf 16) ∧
      ¬(Reg.status = .data0 ∨ Reg.status = .data1 ∨ ∃ k, Reg.status = .buf k) := by decide

theorem witness_AccessesReachTheirRegister :
    (0x1C ≤ 0x1C ∧ 0x1C ≤ 0x3C) ∧ (0x84 ≤ 0xFC ∧ 0xFC ≤ 0xFC) ∧
      booted.cfg.wf = true ∧ 0xFC < 0x100 ∧ 0xFC % 4 = 0 ∧
      ({ booted with agenda := [.bus (.read 4 0xFC)] } : State).agenda =
        .bus (.read 4 (booted.cfg.blockBase + 0x100 * Port.p0.index + 0xFC)) :: [] ∧
      ({ booted with agenda := [.bus (.write 4 0x204 9)] } : State).agenda =
        .bus (.write 4 (booted.cfg.blockBase + 0x100 * Port.p2.index + 0x04) 9) :: [] := by decide

theorem witness_OtherAccessesHaveNoStep :
    ((Access.write 2 0x04 7).width ≠ 4 ∧ booted.cfg.blockBase ≤ 0x04 ∧ 0x04 < booted.cfg.blockBase + 768) ∧
      ((Access.read 4 767).addr % 4 ≠ 0 ∧ 767 < booted.cfg.blockBase + 768) ∧
      booted.cfg.blockBase + 768 ≤ (Access.read 4 768).addr := by decide

theorem witness_OtherPortsAreUntouched :
    (∃ t, exec .scan keyThreeDown = .next t) ∧ Port.p1 ≠ keyThreeDown.issuing := ⟨⟨_, rfl⟩, by decide⟩

theorem witness_OnlyNamedRegistersChange :
    (∃ t, exec .scan keyThreeDown = .next t) ∧ Reg.resp1 ≠ .status ∧ Reg.resp1 ∉ Instr.answers .scan :=
  ⟨⟨_, rfl⟩, by decide, by decide⟩

theorem witness_ResultsAreThoseOfTheTable : booted.accepts .scan = true := by decide

theorem witness_RecoverableErrorsChangeNothing :
    after (exec .clkRead State.reset) (fun t => t.regs.result.recoverable) = true ∧
      after (exec (.evtRead 0) booted) (fun t => t.regs.result.recoverable) = true := by decide +kernel

theorem witness_FatalIsLeftOnlyByReset :
    step { dead with agenda := [.tick] } = .next (stepped { dead with agenda := [.tick] }) ∧
      ({ dead with agenda := [.tick] } : State).fatal = true ∧
      ({ dead with agenda := [.tick] } : State).nextAct ≠ some .reset :=
  ⟨stepped_eq (by decide +kernel), by decide, by decide⟩

theorem witness_ResetStepRestoresResetValues :
    ({ dead with agenda := [.reset] } : State).agenda = .reset :: [] := rfl

theorem witness_ResetGivesEveryFieldItsValue : Reg.buf 16 ≠ .status := by decide

theorem witness_EveryStepKeepsTheInvariant :
    ({ queued with agenda := [.enter] } : State).Inv ∧
      step { queued with agenda := [.enter] } = .next (stepped { queued with agenda := [.enter] }) :=
  ⟨⟨by decide, ⟨by decide, by decide, by decide, by decide, by decide, by decide, by decide, by decide,
      by decide, by decide, by decide⟩, ⟨by decide +kernel, by decide⟩, ⟨by decide, by decide⟩⟩,
    stepped_eq (by decide +kernel)⟩

theorem witness_EnvironmentStepsChangeOneField :
    (({ booted with agenda := [.tick] } : State).agenda = .tick :: [] ∧ booted.clkEn = true) ∧
      (({ State.reset with agenda := [.tick] } : State).agenda = .tick :: [] ∧ State.reset.clkEn = false) ∧
      ({ booted with agenda := [.syncW] } : State).agenda = .syncW :: [] ∧
      ({ booted with agenda := [.syncR] } : State).agenda = .syncR :: [] ∧
      ({ booted with agenda := [.keypad 0xFFF7] } : State).agenda = .keypad 0xFFF7 :: [] := by decide

end Sys2Proof.Tests
end

