-- ==== Sys2Proof/Proofs/Scope.lean ====
section
/-!
PROOFS. When the USB interrupt handler is entered and left, and which context its state shuts out
(00_scope.md R7, 60_exceptions.md R187).
-/

namespace Sys2Proof.Machine

/-- `enter` is enabled exactly when the line is high and P1 is idle (R159, R187). -/
theorem State.mayEnter_iff (s : State) :
    s.mayEnter = true ↔ s.evPending = true ∧ s.usbIrqEn = true ∧ s.handler = .idle := by
  simp [State.mayEnter, State.irq, and_assoc]

/-- P1 is in its handler exactly when it is not idle. -/
theorem State.inHandler_iff (s : State) : s.inHandler = true ↔ s.handler ≠ .idle := by
  simp [State.inHandler]

theorem stepIf_of_enabled {b : Bool} (t : State) (h : b = true) : stepIf b t = .next t :=
  if_pos h

theorem stepIf_of_not_enabled {b : Bool} (t : State) (h : ¬ b = true) :
    stepIf b t = .refused .notEnabled :=
  if_neg h

theorem State.perform_enter (s : State) : s.perform .enter = stepIf s.mayEnter s.enterHandler := rfl

theorem State.perform_leave (s : State) : s.perform .leave = stepIf s.inHandler s.leaveHandler := rfl

/-- A context whose role forbids the access has no step. -/
theorem State.perform_context_of_not_allowed {s : State} {c : Port} {x : Access}
    (h : ¬ s.roleAllows c x = true) : s.perform (.context c x) = .refused .notEnabled :=
  if_neg h

/-- P0's role allows an access only while P1 is not in its handler (R7). -/
theorem State.not_inHandler_of_roleAllows_p0 {s : State} {x : Access}
    (h : s.roleAllows .p0 x = true) : ¬ s.inHandler = true := by
  unfold State.roleAllows at h
  split at h
  · cases h
  · obtain ⟨-, hrole⟩ := (Bool.and_eq_true _ _).mp h
    simpa using hrole

/-- P1's role allows an access only while P1 is in its handler (R187). -/
theorem State.inHandler_of_roleAllows_p1 {s : State} {x : Access}
    (h : s.roleAllows .p1 x = true) : s.inHandler = true := by
  unfold State.roleAllows at h
  split at h
  · cases h
  · exact ((Bool.and_eq_true _ _).mp h).2

/-- Settles O42: `enter`, `return` and the contexts' steps are each guarded by a condition of the model, and
the lemmas above say what these conditions are in terms of the line and of P1's state. -/
theorem handlerEntersOnTheLine : Obligations.HandlerEntersOnTheLine := by
  unfold Obligations.HandlerEntersOnTheLine
  intro s
  refine ⟨fun hev hen hidle => ?enters, fun hoff => ?noEnter, fun hin => ?leaves, fun hidle => ?noLeave,
    fun hin x => ?noP0, fun hidle x => ?noP1⟩
  case enters =>
    rw [s.perform_enter]
    exact stepIf_of_enabled _ (s.mayEnter_iff.mpr ⟨hev, hen, hidle⟩)
  case noEnter =>
    rw [s.perform_enter]
    refine stepIf_of_not_enabled _ fun hmay => ?_
    obtain ⟨hev, hen, hidle⟩ := s.mayEnter_iff.mp hmay
    simp [hev, hen, hidle] at hoff
  case leaves =>
    rw [s.perform_leave]
    exact stepIf_of_enabled _ (s.inHandler_iff.mpr hin)
  case noLeave =>
    rw [s.perform_leave]
    exact stepIf_of_not_enabled _ fun hin => s.inHandler_iff.mp hin hidle
  case noP0 =>
    exact State.perform_context_of_not_allowed fun hallows =>
      State.not_inHandler_of_roleAllows_p0 hallows (s.inHandler_iff.mpr hin)
  case noP1 =>
    exact State.perform_context_of_not_allowed fun hallows =>
      s.inHandler_iff.mp (State.inHandler_of_roleAllows_p1 hallows) hidle

end Sys2Proof.Machine
end

section
/-!
PROOFS. What every step keeps, what an operation leaves unchanged and what RESET restores, of the state of
10_state.md: the block's invariant, the clock, the keys, the ports' registers, STATUS, and the reset values.
-/

namespace Sys2Proof.Machine

/-! ## What a step of the environment leaves unchanged -/

/-- No step of the environment but RESET touches the parameters, the keys, the event count, the fatal state or
its cause (R6, R32, R34, R183). -/
theorem State.perform_environment_frame {u t : State} {a : Act} (henv : a.isEnvironment = true)
    (hreset : a ≠ .reset) (h : u.perform a = .next t) :
    t.cfg = u.cfg ∧ t.keys = u.keys ∧ t.evtCount = u.evtCount ∧ t.fatal = u.fatal ∧
      t.fatalCause = u.fatalCause := by
  cases a with
  | bus x => cases henv
  | context c x => cases henv
  | reset => exact absurd rfl hreset
  | syncW => cases h; simp
  | syncR => cases h; simp
  | keypad lines => cases h; simp
  | _ => obtain ⟨-, rfl⟩ := stepIf_next h; simp

theorem State.perform_reset {u t : State} (h : u.perform .reset = .next t) : t = u.resetBlock := by
  cases h; rfl

/-- The four ways SCAN's own rule ends: CLK is not initialised, the LED transaction fails, the keypad read
fails, or both succeed (R113). -/
theorem scanRule_cases (s : State) (P : State → Prop) (hNotInit : P (s.setResult .errNotInit))
    (hLed : P ((s.clearEvents.sendLed s.ledFrame).raiseFatal causeLedBus))
    (hKeypad : P ((s.clearEvents.sendLed s.ledFrame).busAsked.raiseFatal causeKeypadBus))
    (hRead : P (s.clearEvents.sendLed s.ledFrame).busAsked.scanRead) : P (scanRule s) := by
  unfold scanRule
  split
  · exact hNotInit
  · dsimp only
    split
    · exact hLed
    · split
      · exact hKeypad
      · exact hRead

/-! ## The parameters -/

theorem step_cfg {s s' : State} (h : step s = .next s') : s'.cfg = s.cfg := by
  refine step_keeps h (fun t => t.cfg = s.cfg) ?_ ?_ ?_ ?_ ?_ ?_ ?_ ?_ ?env rfl
  case env =>
    intro u a t _ henv hu ha
    by_cases hreset : a = .reset
    · subst hreset
      rw [State.perform_reset ha]
      exact hu
    · obtain ⟨hcfg, -⟩ := State.perform_environment_frame henv hreset ha
      exact hcfg.trans hu
  all_goals intros; simpa

/-! ## The fatal state -/

theorem FatalInv.congr {s t : State} (h : FatalInv s) (hf : t.fatal = s.fatal)
    (hc : t.fatalCause = s.fatalCause) : FatalInv t where
  none_before := by rw [hf, hc]; exact h.none_before
  valid_after := by rw [hf, hc]; exact h.valid_after

/-- `raise Fatal` with a cause of R181 keeps the invariant, for it keeps the first cause (R183). -/
theorem FatalInv.raiseFatal {s : State} (h : FatalInv s) {c : BitVec 8} (hc : validCause c = true) :
    FatalInv (s.raiseFatal c) where
  none_before := nofun
  valid_after := fun _ => by
    rw [State.raiseFatal_fatalCause]
    split
    next hf => exact h.valid_after hf
    next => exact hc

theorem FatalInv.resetBlock (s : State) : FatalInv s.resetBlock where
  none_before := fun _ => rfl
  valid_after := nofun

theorem FatalInv.irqEnRule {s : State} (h : FatalInv s) (v : Bool) : FatalInv (irqEnRule v s) := by
  unfold Machine.irqEnRule
  split
  · exact h.raiseFatal rfl
  · exact h.congr rfl rfl

/-- A cause that FATAL_REQ lets through is one software may raise (R176, R181). -/
theorem FatalInv.fatalReqRule {s : State} (h : FatalInv s) (c : BitVec 8) :
    FatalInv (fatalReqRule c s) := by
  unfold Machine.fatalReqRule
  split
  next => exact h.congr rfl rfl
  next hc =>
    have hle : causeSoftwareMin ≤ c := BitVec.not_lt.mp hc
    exact h.raiseFatal (by simpa [validCause] using .inr hle)

theorem FatalInv.scanRule {s : State} (h : FatalInv s) : FatalInv (scanRule s) := by
  have sent : FatalInv (s.clearEvents.sendLed s.ledFrame) :=
    h.congr (by simp [State.sendLed]) (by simp [State.sendLed])
  have asked := sent.congr (State.busAsked_fatal _) (State.busAsked_fatalCause _)
  exact scanRule_cases s FatalInv (h.congr rfl rfl) (sent.raiseFatal rfl) (asked.raiseFatal rfl)
    (asked.congr (by simp [State.scanRead]) (by simp [State.scanRead]))

theorem FatalInv.ruleOf {s : State} (h : FatalInv s) (i : Instr) : FatalInv (ruleOf i s) := by
  cases i with
  | irqEn v => exact h.irqEnRule v
  | fatalReq c => exact h.fatalReqRule c
  | scan => exact h.scanRule
  | _ => exact h.congr (ruleOf_fatal _ _ nofun nofun nofun) (ruleOf_fatalCause _ _ nofun nofun nofun)

theorem FatalInv.step {s s' : State} (hs : FatalInv s) (h : step s = .next s') : FatalInv s' := by
  refine step_keeps h FatalInv ?_ ?_ ?_ ?_ ?_ ?early ?rule ?_ ?env hs
  case early => exact fun _ hu => hu.raiseFatal rfl
  case rule => exact fun i _ _ hu => hu.ruleOf i
  case env =>
    intro u a t _ henv hu ha
    by_cases hreset : a = .reset
    · subst hreset
      exact State.perform_reset ha ▸ .resetBlock u
    · obtain ⟨-, -, -, hf, hc⟩ := State.perform_environment_frame henv hreset ha
      exact hu.congr hf hc
  all_goals intros; rename FatalInv _ => hu; exact hu.congr (by simp) (by simp)

/-! ## The keys and the event list -/

theorem KeysInv.congr {s t : State} (h : KeysInv s) (hk : t.keys = s.keys)
    (hc : t.evtCount = s.evtCount) : KeysInv t where
  held_pressed := by rw [hk]; exact h.held_pressed
  count_le := by rw [hc]; exact h.count_le

/-- The per-key state machine makes no key held that is not pressed (R114). -/
theorem keyStep_held_pressed (hold : Nat) (k : Key) (b : Bool) (now : BitVec 64)
    (h : k.held = true → k.pressed = true) :
    (keyStep hold k b now).1.held = true → (keyStep hold k b now).1.pressed = true := by
  unfold keyStep
  split
  next => simp
  next hp => split <;> exact fun _ => hp
  next => simp
  next => exact h

/-- Neither colour of a key is one of its flags (R119). -/
@[simp] theorem Key.setColor_held (k : Key) (sel : ColorSel) (c : Color) :
    (k.setColor sel c).held = k.held := by cases sel <;> rfl

@[simp] theorem Key.setColor_pressed (k : Key) (sel : ColorSel) (c : Color) :
    (k.setColor sel c).pressed = k.pressed := by cases sel <;> rfl

theorem KeysInv.resetBlock (s : State) : KeysInv s.resetBlock where
  held_pressed := fun i => by simp [State.resetBlock, State.reset, Key.reset]
  count_le := Nat.zero_le _

theorem KeysInv.clearEvents {s : State} (h : KeysInv s) : KeysInv s.clearEvents where
  held_pressed := h.held_pressed
  count_le := Nat.zero_le _

/-- A scan from an empty event list reports each of the 16 keys at most once (R113, R115). -/
theorem KeysInv.scanKeys {s : State} (h : KeysInv s) (hc : s.evtCount = 0) (d : BitVec 16)
    (n : BitVec 64) : KeysInv (s.scanKeys d n) := by
  obtain ⟨hkeys, -, -, hcount⟩ := s.scanKeys_spec d n hc
  exact
    { held_pressed := fun i => by
        rw [hkeys i]
        exact keyStep_held_pressed _ _ _ _ (h.held_pressed i)
      count_le := hcount }

theorem State.scanRead_keys (s : State) :
    s.scanRead.keys = (s.scanKeys (pressedMask s.keypadBytes.1 s.keypadBytes.2) s.clk).keys := by
  rw [State.scanRead, State.setResult_keys, State.setResp0_keys]

theorem State.scanRead_evtCount (s : State) :
    s.scanRead.evtCount =
      (s.scanKeys (pressedMask s.keypadBytes.1 s.keypadBytes.2) s.clk).evtCount := by
  rw [State.scanRead, State.setResult_evtCount, State.setResp0_evtCount]

theorem KeysInv.scanRead {s : State} (h : KeysInv s) (hc : s.evtCount = 0) : KeysInv s.scanRead :=
  (h.scanKeys hc _ _).congr s.scanRead_keys s.scanRead_evtCount

theorem KeysInv.scanRule {s : State} (h : KeysInv s) : KeysInv (scanRule s) := by
  have sent : KeysInv (s.clearEvents.sendLed s.ledFrame) :=
    h.clearEvents.congr (by simp [State.sendLed]) (by simp [State.sendLed])
  have asked := sent.congr (State.busAsked_keys _) (State.busAsked_evtCount _)
  exact scanRule_cases s KeysInv (h.congr rfl rfl) (sent.congr rfl rfl) (asked.congr rfl rfl)
    (asked.scanRead (by simp [State.sendLed]))

theorem KeysInv.keySetColorRule {s : State} (h : KeysInv s) (sel : ColorSel) (i : Fin 16) :
    KeysInv (keySetColorRule sel i s) where
  held_pressed := fun j => by
    by_cases hj : i = j
    · subst hj
      simpa [Machine.keySetColorRule] using h.held_pressed i
    · have hne : i.val ≠ j.val := fun e => hj (Fin.ext e)
      simpa [Machine.keySetColorRule, hne] using h.held_pressed j
  count_le := h.count_le

theorem KeysInv.keyBcastColorRule {s : State} (h : KeysInv s) (sel : ColorSel) :
    KeysInv (keyBcastColorRule sel s) where
  held_pressed := fun i => by
    rw [Machine.keyBcastColorRule, State.setResult_keys, State.setAllColors_keys]
    simpa using h.held_pressed i
  count_le := by
    rw [Machine.keyBcastColorRule, State.setResult_evtCount, State.setAllColors_evtCount]
    exact h.count_le

theorem KeysInv.ruleOf {s : State} (h : KeysInv s) (i : Instr) : KeysInv (ruleOf i s) := by
  cases i with
  | scan => exact h.scanRule
  | keySetColor sel key => exact h.keySetColorRule sel key
  | keyBcastColor sel => exact h.keyBcastColorRule sel
  | _ => exact h.congr (ruleOf_keys _ _ nofun nofun nofun) (ruleOf_evtCount _ _ nofun)

theorem KeysInv.step {s s' : State} (hs : KeysInv s) (h : step s = .next s') : KeysInv s' := by
  refine step_keeps h KeysInv ?_ ?_ ?_ ?_ ?_ ?_ ?rule ?_ ?env hs
  case rule => exact fun i _ _ hu => hu.ruleOf i
  case env =>
    intro u a t _ henv hu ha
    by_cases hreset : a = .reset
    · subst hreset
      exact State.perform_reset ha ▸ .resetBlock u
    · obtain ⟨-, hk, hc, -, -⟩ := State.perform_environment_frame henv hreset ha
      exact hu.congr hk hc
  all_goals intros; rename KeysInv _ => hu; exact hu.congr (by simp) (by simp)

/-! ## The USB unit -/

/-- The fields the invariant of the USB unit speaks of. -/
def State.usbView (s : State) :=
  (s.cfg, s.usbEn, s.usbIrqEn, s.evPending, s.ctrlPending, s.configured, s.kbd, s.moreHid, s.handler)

theorem UsbInv.congr {s t : State} (h : UsbInv s) (hview : t.usbView = s.usbView) : UsbInv t := by
  cases s
  cases t
  simp only [State.usbView, Prod.mk.injEq] at hview
  obtain ⟨rfl, rfl, rfl, rfl, rfl, rfl, rfl, rfl, rfl⟩ := hview
  exact { h with }

theorem UsbInv.setResult {s : State} (h : UsbInv s) (c : Result) : UsbInv (s.setResult c) :=
  h.congr rfl

theorem UsbInv.setResp0 {s : State} (h : UsbInv s) (v : Word) : UsbInv (s.setResp0 v) :=
  h.congr rfl

theorem UsbInv.raiseFatal {s : State} (h : UsbInv s) (c : BitVec 8) : UsbInv (s.raiseFatal c) :=
  h.congr rfl

/-- An attached device may have an event waiting (R155 to R158). -/
theorem UsbInv.raiseEvent {s : State} (h : UsbInv s) (hen : s.usbEn = true) :
    UsbInv { s with evPending := true } :=
  { h with event_needs_usb := fun _ => hen }

/-- An entry of a list with one entry changed is an old entry or the changed one. -/
theorem mem_or_changed_of_mem_modify {α : Type} {f : α → α} {n : Nat} {l : List α} {x : α}
    (h : x ∈ l.modify n f) : x ∈ l ∨ ∃ y ∈ l, x = f y := by
  obtain ⟨k, hk, rfl⟩ := List.mem_iff_getElem.mp h
  rw [List.length_modify] at hk
  rw [List.getElem_modify]
  split
  · exact .inr ⟨_, List.getElem_mem hk, rfl⟩
  · exact .inl (List.getElem_mem hk)

/-- A change that keeps `g` of every entry keeps the list of the `g`s. -/
theorem map_modify_of_keeps {α β : Type} {f : α → α} {g : α → β} (hf : ∀ x, g (f x) = g x) (n : Nat)
    (l : List α) : (l.modify n f).map g = l.map g := by
  refine List.ext_getElem (by simp) fun k _ _ => ?_
  rw [List.getElem_map, List.getElem_map, List.getElem_modify]
  split
  · exact hf _
  · rfl

/-- On a configured device an endpoint may change in any way that keeps its buffer and fills none. -/
theorem UsbInv.modifyHid {s : State} (h : UsbInv s) (hconf : s.configured = true) (n : Nat)
    {f : HidInstance → HidInstance} (hbuf : ∀ x, (f x).inBuf = x.inBuf)
    (hfull : ∀ x, (f x).inFull = true → x.inFull = true) : UsbInv (s.modifyHid n f) := by
  cases n with
  | zero =>
    exact { h with
      kbd_length := (congrArg List.length (hbuf _)).trans h.kbd_length
      report_needs_configured := fun _ => hconf
      out_needs_configured := fun _ _ _ => hconf }
  | succ n =>
    refine { h with
      more_lengths := ?lengths
      more_empty := ?empty
      out_needs_configured := fun _ _ _ => hconf }
    case lengths =>
      have hlen : ∀ x, (f x).inBuf.length = x.inBuf.length := fun x => congrArg List.length (hbuf x)
      exact (map_modify_of_keeps hlen n s.moreHid).trans h.more_lengths
    case empty =>
      intro x hx
      rcases mem_or_changed_of_mem_modify hx with hx | ⟨y, hy, rfl⟩
      · exact h.more_empty x hx
      · exact Bool.eq_false_iff.mpr fun hx => Bool.eq_false_iff.mp (h.more_empty y hy) (hfull y hx)

/-! The rules of the operations. -/

theorem UsbInv.initRule {s : State} (h : UsbInv s) (mask : BitVec 4) : UsbInv (initRule mask s) := by
  have stays : ∀ {p : Prop}, (p → s.usbEn = true) → p → (s.usbEn || mask.getLsbD 3) = true :=
    fun hp hq => by simp [hp hq]
  refine UsbInv.setResult ?_ _
  exact { h with
    irq_needs_usb := stays h.irq_needs_usb
    event_needs_usb := stays h.event_needs_usb
    pending_needs_usb := stays h.pending_needs_usb
    configured_needs_usb := stays h.configured_needs_usb
    handler_needs_usb := stays h.handler_needs_usb }

/-- IRQ_EN sets the enable only once USB is initialised (R174). -/
theorem UsbInv.irqEnRule {s : State} (h : UsbInv s) (v : Bool) : UsbInv (irqEnRule v s) := by
  unfold Machine.irqEnRule
  split
  next => exact h.raiseFatal _
  next hv =>
    refine UsbInv.setResult ?_ _
    exact { h with irq_needs_usb := by rintro rfl; simpa using hv }

/-- A queued report has 8 bytes, and the device is configured (R153). -/
theorem UsbInv.usbPushKbdRule {s : State} (h : UsbInv s) : UsbInv (usbPushKbdRule s) := by
  unfold Machine.usbPushKbdRule
  split
  · exact h.setResult _
  · split
    · exact (h.setResp0 _).setResult _
    next hconf =>
      split
      · exact (h.setResp0 _).setResult _
      · refine UsbInv.setResult (UsbInv.setResp0 ?_ _) _
        exact { h with
          kbd_length := rfl
          report_needs_configured := fun _ => by simpa using hconf
          out_needs_configured := fun _ _ _ => by simpa using hconf }

@[simp] theorem HidInstance.drainOut_inBuf (x : HidInstance) : x.drainOut.inBuf = x.inBuf := rfl

@[simp] theorem HidInstance.drainOut_inFull (x : HidInstance) : x.drainOut.inFull = x.inFull := rfl

@[simp] theorem HidInstance.drainOut_outPending (x : HidInstance) : x.drainOut.outPending = false := rfl

/-- A poll completes a waiting configuration and leaves no OUT report pending (R154). -/
theorem UsbInv.usbPollRule {s : State} (h : UsbInv s) : UsbInv (usbPollRule s) := by
  unfold Machine.usbPollRule
  split
  · exact h.setResult _
  next hen =>
    have hen : s.usbEn = true := by simpa using hen
    refine UsbInv.setResult (UsbInv.setResp0 ?_ _) _
    exact { h with
      more_lengths := by simpa [Function.comp_def] using h.more_lengths
      more_empty := by simpa using h.more_empty
      event_needs_usb := nofun
      pending_needs_usb := nofun
      configured_needs_usb := fun _ => hen
      pending_or_configured := nofun
      report_needs_configured := fun hf => by
        rw [h.report_needs_configured hf, Bool.true_or]
      out_needs_configured := by simp [State.hid] }

theorem UsbInv.ruleOf {s : State} (h : UsbInv s) (i : Instr) : UsbInv (ruleOf i s) := by
  cases i with
  | init mask => exact h.initRule mask
  | irqEn v => exact h.irqEnRule v
  | usbPushKbd => exact h.usbPushKbdRule
  | usbPoll => exact h.usbPollRule
  | _ =>
    refine h.congr ?_
    simp [State.usbView, ruleOf_usbEn, ruleOf_usbIrqEn, ruleOf_evPending, ruleOf_ctrlPending,
      ruleOf_configured, ruleOf_kbd, ruleOf_moreHid]

/-! The steps of the host, of P1 and of RESET. -/

theorem UsbInv.hostConfigure {s : State} (h : UsbInv s) (hmay : s.mayConfigure = true) :
    UsbInv s.hostConfigure := by
  simp only [State.mayConfigure, Bool.and_eq_true, Bool.not_eq_true'] at hmay
  obtain ⟨⟨hen, hconf⟩, -⟩ := hmay
  exact { h with
    event_needs_usb := fun _ => hen
    pending_needs_usb := fun _ => hen
    pending_or_configured := fun _ => hconf }

/-- A bus reset leaves no report in either direction, and every buffer its length (R156). -/
theorem UsbInv.hostReset {s : State} (h : UsbInv s) (hen : s.usbEn = true) : UsbInv s.hostReset :=
  { h with
    kbd_length := by simpa [State.hostReset, HidInstance.busReset, HidInstance.reset] using h.kbd_length
    more_lengths := by
      simpa [State.hostReset, HidInstance.busReset, HidInstance.reset, Function.comp_def] using
        h.more_lengths
    more_empty := by simp [State.hostReset, HidInstance.busReset, HidInstance.reset]
    event_needs_usb := fun _ => hen
    pending_needs_usb := nofun
    configured_needs_usb := nofun
    pending_or_configured := nofun
    report_needs_configured := nofun
    out_needs_configured := by
      simp [State.hid, State.hostReset, HidInstance.busReset, HidInstance.reset] }

theorem UsbInv.hostTake {s : State} {n : Nat} (h : UsbInv s) (hmay : s.mayTake n = true) :
    UsbInv (s.hostTake n) := by
  simp only [State.mayTake, Bool.and_eq_true] at hmay
  obtain ⟨⟨hen, hconf⟩, -⟩ := hmay
  have taken : UsbInv (s.modifyHid n fun x => { x with inFull := false }) :=
    h.modifyHid hconf n (fun _ => rfl) (fun _ => nofun)
  exact (taken.raiseEvent (by simpa using hen)).congr rfl

theorem UsbInv.hostOut {s : State} {n : Nat} (h : UsbInv s) (hmay : s.maySendOut n = true) :
    UsbInv (s.hostOut n) := by
  simp only [State.maySendOut, Bool.and_eq_true] at hmay
  obtain ⟨⟨hen, hconf⟩, -⟩ := hmay
  have sent : UsbInv (s.modifyHid n fun x => { x with outPending := true }) :=
    h.modifyHid hconf n (fun _ => rfl) (fun _ hx => hx)
  exact (sent.raiseEvent (by simpa using hen)).congr rfl

/-- The line is high only while USB is initialised, so P1 enters only then (R159, R187). -/
theorem UsbInv.enterHandler {s : State} (h : UsbInv s) (hmay : s.mayEnter = true) :
    UsbInv s.enterHandler := by
  obtain ⟨hev, -, -⟩ := s.mayEnter_iff.mp hmay
  exact { h with handler_needs_usb := fun _ => h.event_needs_usb hev }

theorem UsbInv.leaveHandler {s : State} (h : UsbInv s) : UsbInv s.leaveHandler :=
  { h with handler_needs_usb := nofun }

/-- RESET builds the endpoints from the lengths of the parameters, and turns USB off (R40, R200). -/
theorem UsbInv.resetBlock (s : State) : UsbInv s.resetBlock where
  kbd_length := rfl
  more_lengths := by simp [State.resetBlock, HidInstance.reset, Function.comp_def]
  more_empty := by simp [State.resetBlock, HidInstance.reset]
  irq_needs_usb := nofun
  event_needs_usb := nofun
  pending_needs_usb := nofun
  configured_needs_usb := nofun
  pending_or_configured := nofun
  report_needs_configured := nofun
  out_needs_configured := by
    simp [State.hid, State.resetBlock, State.reset, HidInstance.reset]
  handler_needs_usb := nofun

theorem UsbInv.environment {u t : State} {a : Act} (henv : a.isEnvironment = true) (hu : UsbInv u)
    (h : u.perform a = .next t) : UsbInv t := by
  cases a with
  | bus x => cases henv
  | context c x => cases henv
  | reset => exact State.perform_reset h ▸ .resetBlock u
  | syncW => cases h; exact hu.congr rfl
  | syncR => cases h; exact hu.congr rfl
  | keypad lines => cases h; exact hu.congr rfl
  | tick => obtain ⟨-, rfl⟩ := stepIf_next h; exact hu.congr (by simp [State.usbView])
  | hostConfigure => obtain ⟨hmay, rfl⟩ := stepIf_next h; exact hu.hostConfigure hmay
  | hostReset => obtain ⟨hmay, rfl⟩ := stepIf_next h; exact hu.hostReset hmay
  | hostTake n => obtain ⟨hmay, rfl⟩ := stepIf_next h; exact hu.hostTake hmay
  | hostOut n => obtain ⟨hmay, rfl⟩ := stepIf_next h; exact hu.hostOut hmay
  | enter => obtain ⟨hmay, rfl⟩ := stepIf_next h; exact hu.enterHandler hmay
  | leave => obtain ⟨-, rfl⟩ := stepIf_next h; exact hu.leaveHandler
  | renderDone => obtain ⟨-, rfl⟩ := stepIf_next h; exact hu.congr rfl

/-- A word P1 issues neither enters nor leaves its handler (R187). -/
theorem handlerAfter_eq_idle_iff (w : Word) (t : State) :
    handlerAfter w t = .idle ↔ t.handler = .idle := by
  unfold handlerAfter
  split
  next hh => simp [hh]
  next hh => simp [hh]

theorem UsbInv.noteRole {s : State} (h : UsbInv s) (c : Port) (w : Option Word) :
    UsbInv (s.noteRole c w) := by
  cases w with
  | none => exact h
  | some w =>
    cases c with
    | p0 => exact h
    | p1 =>
      refine { h with handler_needs_usb := fun hin => h.handler_needs_usb ?_ }
      rw [State.inHandler_iff] at hin ⊢
      exact (handlerAfter_eq_idle_iff w s).not.mp hin
    | p2 => exact h.congr rfl

theorem UsbInv.step {s s' : State} (hs : UsbInv s) (h : step s = .next s') : UsbInv s' := by
  refine step_keeps h UsbInv ?_ ?_ ?_ ?_ ?_ ?early ?rule ?role ?env hs
  case early => exact fun _ hu => hu.raiseFatal _
  case rule => exact fun i _ _ hu => hu.ruleOf i
  case role => exact fun _ c w hu => hu.noteRole c w
  case env => exact fun u a t _ henv hu ha => hu.environment henv ha
  all_goals intros; rename UsbInv _ => hu; exact hu.congr (by simp [State.usbView])

/-- Settles O59: each of the four parts of the invariant is kept by every step. -/
theorem everyStepKeepsTheInvariant : Obligations.EveryStepKeepsTheInvariant := by
  unfold Obligations.EveryStepKeepsTheInvariant
  intro s s' hs h
  exact
    { cfg_wf := step_cfg h ▸ hs.cfg_wf
      usb := hs.usb.step h
      keys := hs.keys.step h
      fatal := hs.fatal.step h }

/-! ## What a step leaves unchanged, field by field -/

/-- A field that nothing this step does to the state changes is kept by the step: the picking of an agent,
reads and register writes, the operation it issues, ILLEGAL words, the roles, and the environment. -/
theorem step_keeps_field {α : Type} (f : State → α) {s s' : State} (h : step s = .next s')
    (hPick : f s.picked = f s) (hRead : ∀ u v, f { u with rdata := v } = f u)
    (hWrite : ∀ u p r v, f (State.writeReg u p r v) = f u)
    (hOp : ∀ u p i, s.issues = some (p, i) →
      f (dispatchOp i (ruleOf i) (State.onPort u p)) = f u)
    (hIllegal : ∀ u p, f (dispatchIllegal (State.onPort u p)) = f u)
    (hRole : ∀ u c w, f (State.noteRole u c w) = f u)
    (hEnv : ∀ u a t, s.nextAct = some a → a.isEnvironment = true → u.perform a = .next t →
      f t = f u) :
    f s' = f s := by
  rcases step_cases h with ⟨-, rfl⟩ | ⟨a, hnext, ha⟩
  · exact hPick
  · cases a with
    | bus x =>
      refine (access_keeps f ha (hRead _) (hWrite _) (fun p i ho => hOp _ p i ?_)
        (hIllegal _)).trans hPick
      rw [issues_bus hnext, ← ho, State.picked_cfg]
    | context c x =>
      obtain ⟨-, u, hu, rfl⟩ := contextStep_cases ha
      refine (hRole u c _).trans ?_
      refine (access_keeps f hu (hRead _) (hWrite _) (fun p i ho => hOp _ p i ?_)
        (hIllegal _)).trans hPick
      rw [issues_context hnext, ← ho, State.picked_cfg]
    | _ => exact (hEnv _ _ _ hnext rfl ha).trans hPick

/-! ## The clock -/

/-- No step of the environment but TICK and RESET touches the clock (R30, R90). -/
theorem State.perform_environment_clk {u t : State} {a : Act} (henv : a.isEnvironment = true)
    (htick : a ≠ .tick) (hreset : a ≠ .reset) (h : u.perform a = .next t) : t.clk = u.clk := by
  cases a with
  | bus x => cases henv
  | context c x => cases henv
  | tick => exact absurd rfl htick
  | reset => exact absurd rfl hreset
  | syncW => cases h; rfl
  | syncR => cases h; rfl
  | keypad lines => cases h; rfl
  | _ => obtain ⟨-, rfl⟩ := stepIf_next h; simp

/-- A TICK is enabled only while clk_en = 1, and adds 1 (R90). -/
theorem State.perform_tick {u t : State} (h : u.perform .tick = .next t) :
    u.clkEn = true ∧ t.clk = u.clk + 1 := by
  obtain ⟨hen, rfl⟩ := stepIf_next h
  exact ⟨hen, by rw [State.tick, if_pos hen]⟩

/-- Settles O16: a step that is no TICK keeps the field clk, and a TICK adds 1 to it. -/
theorem clockMovesOnlyByTick : Obligations.ClockMovesOnlyByTick := by
  unfold Obligations.ClockMovesOnlyByTick
  intro s s' h hreset
  by_cases htick : s.nextAct = some .tick
  case pos =>
    right
    rcases step_cases h with ⟨hnone, -⟩ | ⟨a, hnext, ha⟩
    · rw [htick] at hnone; cases hnone
    · obtain rfl : Act.tick = a := Option.some.inj (htick.symm.trans hnext)
      obtain ⟨hen, hclk⟩ := State.perform_tick ha
      exact ⟨htick, by simpa using hen, by simpa using hclk⟩
  case neg =>
    left
    refine step_keeps_field (·.clk) h (by simp) (by simp) (by simp) (by simp) (by simp) (by simp) ?_
    intro u a t hnext henv ha
    refine State.perform_environment_clk henv ?_ ?_ ha
    · rintro rfl; exact htick hnext
    · rintro rfl; exact hreset hnext

/-! ## The keys -/

/-- The operations that write the key array (R32). -/
def Instr.writesKeys : Instr → Bool
  | .scan => true
  | .keySetColor _ _ => true
  | .keyBcastColor _ => true
  | _ => false

theorem ports_of_writesKeys {i : Instr} (h : Instr.writesKeys i = true) : Instr.ports i = [.p0] := by
  cases i with
  | scan => rfl
  | keySetColor sel k => rfl
  | keyBcastColor sel => rfl
  | _ => cases h

/-- An operation that writes no key, or that another port than P0 issues, keeps the key array (R32, R171). -/
theorem dispatchOp_keys_of_no_writer {i : Instr} {u : State} {p : Port}
    (h : Instr.writesKeys i = true → p ≠ .p0) :
    (dispatchOp i (ruleOf i) (u.onPort p)).keys = u.keys := by
  refine dispatchOp_cases i (u.onPort p) (fun t => t.keys = u.keys) (fun _ _ => by simp)
    (fun _ _ => by simp) (fun _ _ _ => by simp) fun hacc => ?rule
  case rule =>
    obtain ⟨-, -, hport⟩ := ((u.onPort p).accepts_iff i).mp hacc
    have hno : ¬ Instr.writesKeys i = true := fun hw => h hw (by simpa [ports_of_writesKeys hw] using hport)
    refine ruleOf_keys i _ ?_ ?_ ?_
    · rintro rfl; exact hno rfl
    · rintro sel k rfl; exact hno rfl
    · rintro sel rfl; exact hno rfl

/-- Settles O29: a step that issues none of the three operations on P0 and is no RESET keeps the field keys. -/
theorem keysAreWrittenByTheScannerOnly : Obligations.KeysAreWrittenByTheScannerOnly := by
  unfold Obligations.KeysAreWrittenByTheScannerOnly
  intro s s' h hchanged
  by_contra hno
  simp only [not_or, not_exists] at hno
  obtain ⟨hreset, hscan, hset, hbcast⟩ := hno
  refine hchanged (step_keeps_field (·.keys) h (by simp) (by simp) (by simp) ?op (by simp) (by simp) ?env)
  case op =>
    intro u p i hissues
    refine dispatchOp_keys_of_no_writer fun hw => ?_
    rintro rfl
    cases i with
    | scan => exact hscan hissues
    | keySetColor sel k => exact hset sel k hissues
    | keyBcastColor sel => exact hbcast sel hissues
    | _ => cases hw
  case env =>
    intro u a t hnext henv ha
    have hne : a ≠ .reset := by rintro rfl; exact hreset hnext
    obtain ⟨-, hkeys, -⟩ := State.perform_environment_frame henv hne ha
    exact hkeys

/-! ## The ports' registers -/

/-- From `s` to `t` no register but STATUS and those of `l` has changed, and these on the issuing port
alone (R20, R23, R25). -/
structure State.OnlyWrites (l : List Reg) (s t : State) : Prop where
  issuing : t.issuing = s.issuing
  others : ∀ q, q ≠ s.issuing → t.port q = s.port q
  own : ∀ r, r ≠ .status → r ∉ l → t.readReg s.issuing r = s.readReg s.issuing r

/-- STATUS aside, a read follows from the port's registers alone (R53). -/
theorem State.readReg_congr {s t : State} {p : Port} {r : Reg} (hr : r ≠ .status)
    (h : t.port p = s.port p) : t.readReg p r = s.readReg p r := by
  cases r with
  | status => exact absurd rfl hr
  | _ => simp only [State.readReg, h]

namespace State.OnlyWrites

variable {l : List Reg} {s t : State}

theorem refl : OnlyWrites l s s :=
  ⟨rfl, fun _ _ => rfl, fun _ _ _ => rfl⟩

/-- A change of other fields than the ports' registers. -/
theorem congr {u : State} (h : OnlyWrites l s t) (hi : u.issuing = t.issuing)
    (hp : ∀ q, u.port q = t.port q) : OnlyWrites l s u where
  issuing := hi.trans h.issuing
  others := fun q hq => (hp q).trans (h.others q hq)
  own := fun r hr hl => (State.readReg_congr hr (hp _)).trans (h.own r hr hl)

theorem of_ports {u : State} (hi : u.issuing = s.issuing) (hp : ∀ q, u.port q = s.port q) :
    OnlyWrites l s u :=
  refl.congr hi hp

/-- A write of the issuing port that shows in STATUS and the registers of `l` alone. -/
theorem setPort (h : OnlyWrites l s t) {g : PortRegs}
    (hg : ∀ r, r ≠ .status → r ∉ l →
      (t.setPort t.issuing g).readReg t.issuing r = t.readReg t.issuing r) :
    OnlyWrites l s (t.setPort t.issuing g) where
  issuing := h.issuing
  others := fun q hq => by
    rw [State.port_setPort_of_ne t (h.issuing ▸ hq), h.others q hq]
  own := fun r hr hl => by
    rw [← h.own r hr hl, ← h.issuing]
    exact hg r hr hl

theorem setResult {c : Result} (h : OnlyWrites l s t) : OnlyWrites l s (t.setResult c) := by
  refine h.setPort fun r hr _ => ?_
  cases r with
  | status => exact absurd rfl hr
  | _ => simp [State.readReg]

theorem setResp0 {v : Word} (h : OnlyWrites l s t) (hl : .resp0 ∈ l) : OnlyWrites l s (t.setResp0 v) := by
  refine h.setPort fun r hr hr' => ?_
  cases r with
  | status => exact absurd rfl hr
  | resp0 => exact absurd hl hr'
  | _ => simp [State.readReg]

theorem setResp1 {v : Word} (h : OnlyWrites l s t) (hl : .resp1 ∈ l) : OnlyWrites l s (t.setResp1 v) := by
  refine h.setPort fun r hr hr' => ?_
  cases r with
  | status => exact absurd rfl hr
  | resp1 => exact absurd hl hr'
  | _ => simp [State.readReg]

theorem setResp2 {v : Word} (h : OnlyWrites l s t) (hl : .resp2 ∈ l) : OnlyWrites l s (t.setResp2 v) := by
  refine h.setPort fun r hr hr' => ?_
  cases r with
  | status => exact absurd rfl hr
  | resp2 => exact absurd hl hr'
  | _ => simp [State.readReg]

theorem setBuf {b : Entry} (h : OnlyWrites l s t) (hl : ∀ k, .buf k ∈ l) : OnlyWrites l s (t.setBuf b) := by
  refine h.setPort fun r hr hr' => ?_
  cases r with
  | status => exact absurd rfl hr
  | buf k => exact absurd (hl k) hr'
  | _ => simp [State.readReg]

theorem raiseFatal {c : BitVec 8} (h : OnlyWrites l s t) : OnlyWrites l s (t.raiseFatal c) :=
  .setResult (h.congr rfl fun _ => rfl)

theorem sendLed {frame : List Byte} (h : OnlyWrites l s t) : OnlyWrites l s (t.sendLed frame) :=
  h.congr (by simp [State.sendLed]) fun q => State.busAsked_issuing_port t q

theorem busAsked (h : OnlyWrites l s t) : OnlyWrites l s t.busAsked :=
  h.congr (State.busAsked_issuing t) (State.busAsked_issuing_port t)

theorem jitterAsked (h : OnlyWrites l s t) : OnlyWrites l s t.jitterAsked :=
  h.congr (State.jitterAsked_issuing t) (State.jitterAsked_issuing_port t)

theorem scanRead (h : OnlyWrites l s t) (hl : .resp0 ∈ l) : OnlyWrites l s t.scanRead :=
  ((h.congr (State.scanKeys_issuing _ _ _) (State.port_congr (State.scanKeys_p0 _ _ _)
    (State.scanKeys_p1 _ _ _) (State.scanKeys_p2 _ _ _))).setResp0 hl).setResult

theorem setAllColors {sel : ColorSel} {c : Color} (h : OnlyWrites l s t) :
    OnlyWrites l s (t.setAllColors sel c) :=
  h.congr (State.setAllColors_issuing _ _ _) (State.port_congr (State.setAllColors_p0 _ _ _)
    (State.setAllColors_p1 _ _ _) (State.setAllColors_p2 _ _ _))

end State.OnlyWrites

theorem scanRule_onlyWrites (s : State) : State.OnlyWrites (Instr.answers .scan) s (scanRule s) := by
  have sent : State.OnlyWrites (Instr.answers .scan) s (s.clearEvents.sendLed s.ledFrame) :=
    .sendLed (.of_ports rfl fun _ => rfl)
  exact scanRule_cases s _ (.setResult .refl) sent.raiseFatal sent.busAsked.raiseFatal
    (sent.busAsked.scanRead (.head _))

/-- Every BUF word is in the row of Q_POP (R80). -/
theorem buf_mem_answers_qPop (k : Fin 17) : .buf k ∈ Instr.answers .qPop := by
  revert k
  decide

/-- Each operation's own rule writes what its row of R80 names. -/
theorem ruleOf_onlyWrites (i : Instr) (s : State) :
    State.OnlyWrites (Instr.answers i) s (ruleOf i s) := by
  cases i with
  | nop => exact .setResult .refl
  | init mask => exact .setResult (.of_ports rfl fun _ => rfl)
  | irqEn v =>
    simp only [ruleOf, irqEnRule]
    split
    · exact .raiseFatal .refl
    · exact .setResult (.of_ports rfl fun _ => rfl)
  | readCtrl =>
    exact .setResult (.setResp2 (.setResp1 (.setResp0 .refl (by simp [Instr.answers]))
      (by simp [Instr.answers])) (by simp [Instr.answers]))
  | fatalReq c =>
    simp only [ruleOf, fatalReqRule]
    split
    · exact .setResult .refl
    · exact .raiseFatal .refl
  | scan => exact scanRule_onlyWrites s
  | evtRead j =>
    simp only [ruleOf, evtReadRule]
    split <;> exact .setResult (.setResp0 .refl (.head _))
  | keyRead k =>
    exact .setResult (.setResp2 (.setResp1 (.setResp0 .refl (by simp [Instr.answers]))
      (by simp [Instr.answers])) (by simp [Instr.answers]))
  | keyColorRead k =>
    exact .setResult (.setResp1 (.setResp0 .refl (by simp [Instr.answers])) (by simp [Instr.answers]))
  | keySetColor sel k => exact .setResult (.of_ports rfl fun _ => rfl)
  | keyBcastColor sel => exact .setResult (.setAllColors .refl)
  | ledSetBrightness => exact .setResult (.of_ports rfl fun _ => rfl)
  | clkRead =>
    simp only [ruleOf, clkReadRule]
    split
    · exact .setResult .refl
    · exact .setResult (.setResp1 (.setResp0 .refl (by simp [Instr.answers])) (by simp [Instr.answers]))
  | rngRead =>
    simp only [ruleOf, rngReadRule]
    split
    · exact .setResult .refl
    · split
      · exact .setResult (.setResp0 .refl (.head _))
      · exact .setResult (.setResp0 (.jitterAsked .refl) (.head _))
  | qPush =>
    simp only [ruleOf, qPushRule]
    split
    · exact .setResult .refl
    · split
      · exact .setResult .refl
      · exact .setResult (.of_ports rfl fun _ => rfl)
  | qPop =>
    simp only [ruleOf, qPopRule]
    split
    · exact .setResult (.setResp0 .refl (.head _))
    · exact .setResult (.setResp0 (.setBuf (.of_ports rfl fun _ => rfl) buf_mem_answers_qPop) (.head _))
  | qLevel =>
    simp only [ruleOf, qLevelRule]
    split
    · exact .setResult .refl
    · exact .setResult (.setResp0 .refl (.head _))
  | usbPushKbd =>
    simp only [ruleOf, usbPushKbdRule]
    split
    · exact .setResult .refl
    · split
      · exact .setResult (.setResp0 .refl (.head _))
      · split
        · exact .setResult (.setResp0 .refl (.head _))
        · exact .setResult (.setResp0 (.of_ports rfl fun _ => rfl) (.head _))
  | usbPoll =>
    simp only [ruleOf, usbPollRule]
    split
    · exact .setResult .refl
    · exact .setResult (.setResp0 (.of_ports rfl fun _ => rfl) (.head _))
  | usbStateRead =>
    simp only [ruleOf, usbStateReadRule]
    split
    · exact .setResult .refl
    · exact .setResult (.setResp0 .refl (.head _))

/-- An operation writes what its row of R80 names; the front end writes RESULT alone (R170). -/
theorem exec_onlyWrites {i : Instr} {s t : State} (h : exec i s = .next t) :
    State.OnlyWrites (Instr.answers i) s t :=
  exec_cases h (State.OnlyWrites (Instr.answers i) s) (fun _ _ => .setResult .refl)
    (fun _ _ => .raiseFatal .refl) (fun _ _ _ => .setResult .refl) (fun _ => ruleOf_onlyWrites i s)

/-- Settles O51: an operation writes registers of the issuing port alone. -/
theorem otherPortsAreUntouched : Obligations.OtherPortsAreUntouched := by
  unfold Obligations.OtherPortsAreUntouched
  intro i s t q h hq
  exact (exec_onlyWrites h).others q hq

/-- Settles O52: of the issuing port's registers an operation writes STATUS and those of its row. -/
theorem onlyNamedRegistersChange : Obligations.OnlyNamedRegistersChange := by
  unfold Obligations.OnlyNamedRegistersChange
  intro i s t r h hr hl
  exact (exec_onlyWrites h).own r hr hl

/-! ## The issue of a command word -/

/-- The address of a register of a port lies in that port's window, at the register's offset (R51, R53). -/
theorem windowPlace_regAddr (c : Params) (p : Port) (r : Reg) :
    windowPlace c (regAddr c p r) = some (p, r.offset) := by
  have hoff : r.offset < 0x100 := by
    cases r with
    | buf k => have := k.isLt; simp only [Reg.offset]; omega
    | _ => decide
  have hsub : regAddr c p r - c.blockBase = r.offset + 0x100 * p.index := by
    unfold regAddr; omega
  have hbase : ¬ regAddr c p r < c.blockBase := by unfold regAddr; omega
  rw [windowPlace, if_neg hbase, hsub, Nat.add_mul_div_left _ _ (by decide), Nat.add_mul_mod_self_left,
    Nat.div_eq_of_lt hoff, Nat.mod_eq_of_lt hoff, Nat.zero_add]
  cases p <;> rfl

/-- The write of a register is an access HDK admits (R52, R55). -/
theorem writeAccess_place {c : Params} (hc : c.wf = true) (p : Port) (r : Reg) (v : Word) :
    (writeAccess c p r v).place c = some (p, r.offset) := by
  have hbase : c.blockBase % 256 = 0 := by
    simp only [Params.wf, Bool.and_eq_true] at hc
    obtain ⟨⟨⟨haligned, -⟩, -⟩, -⟩ := hc
    exact beq_iff_eq.mp haligned
  have hoff : r.offset % 4 = 0 := by
    cases r with
    | buf k => simp only [Reg.offset]; omega
    | _ => rfl
  have hwf : (writeAccess c p r v).wf = true := by
    simp only [writeAccess, Access.wf, Access.width, Access.addr, regAddr, beq_self_eq_true,
      Bool.true_and, beq_iff_eq]
    omega
  rw [Access.place, if_pos hwf]
  exact windowPlace_regAddr c p r

/-- A write of CMD is the issue of its word on that port (R22, R170). -/
theorem State.perform_write_cmd {s : State} (hc : s.cfg.wf = true) (p : Port) (w : Word) :
    s.perform (.bus (writeAccess s.cfg p .cmd w)) = s.issueCommand p w := by
  rw [State.perform, State.access, writeAccess_place hc]
  rfl

theorem State.issueCommand_of_decode {s : State} {p : Port} {w : Word} {i : Instr}
    (h : decode w = .ok i) : s.issueCommand p w = exec i (s.onPort p) := by
  rw [State.issueCommand, h]

/-- A step takes the head of the agenda (R6, R189; notes/assumptions/1.md). -/
theorem step_of_agenda {s : State} {a : Act} {rest : List Act} (h : s.agenda = a :: rest) :
    step s = ({ s with agenda := rest } : State).perform a := by
  rw [step, takeStep, State.nextAct, State.picked, h]

/-- Settles O4: the head of the agenda is a write of CMD, and its word decodes to i. -/
theorem stepRunsTheDecodedOperation : Obligations.StepRunsTheDecodedOperation := by
  unfold Obligations.StepRunsTheDecodedOperation
  intro s p w i rest hc hagenda hdecode
  rw [step_of_agenda hagenda, ← State.issueCommand_of_decode hdecode]
  exact State.perform_write_cmd (s := { s with agenda := rest }) hc p w

/-! ## STATUS -/

/-- STATUS bit by bit: RESULT, FATAL, USB_IRQ, and 0 above (R24). -/
theorem State.statusWord_getLsbD (s : State) (c : Result) (k : Nat) :
    (s.statusWord c).getLsbD k =
      if k < 8 then c.code.getLsbD k else if k = 8 then s.fatal else if k = 9 then s.irq else false := by
  rw [State.statusWord, BitVec.getLsbD_append, BitVec.getLsbD_append, BitVec.getLsbD_append]
  by_cases h8 : k < 8
  · simp [h8]
  · rcases (show k = 8 ∨ k = 9 ∨ 10 ≤ k by omega) with rfl | rfl | h10
    · simp
    · simp
    · simp [h8, show ¬ k - 8 < 1 by omega, show ¬ k - 8 - 1 < 1 by omega, show k ≠ 8 by omega,
        show k ≠ 9 by omega]

theorem State.statusWord_result (s : State) (c : Result) :
    (s.statusWord c).extractLsb' 0 8 = c.code := by
  refine BitVec.eq_of_getLsbD_eq fun k hk => ?_
  simp [State.statusWord_getLsbD, hk]

/-- Bits 31:10 of STATUS are 0 (R24). -/
theorem State.statusWord_lt (s : State) (c : Result) : (s.statusWord c).toNat < 2 ^ 10 := by
  refine Nat.lt_pow_two_of_testBit _ fun k hk => ?_
  have hbit := s.statusWord_getLsbD c k
  rwa [if_neg (by omega), if_neg (by omega), if_neg (by omega)] at hbit

/-- Settles O50: STATUS is RESULT's code under the bits FATAL and USB_IRQ. -/
theorem statusShowsResultFatalAndLine : Obligations.StatusShowsResultFatalAndLine := by
  unfold Obligations.StatusShowsResultFatalAndLine
  intro s p
  exact ⟨s.statusWord_result _, s.statusWord_getLsbD _ 8, s.statusWord_getLsbD _ 9, s.statusWord_lt _⟩

/-! ## RESET -/

/-- Settles O56: the step is State.resetBlock, which names every field it keeps. -/
theorem resetStepRestoresResetValues : Obligations.ResetStepRestoresResetValues := by
  unfold Obligations.ResetStepRestoresResetValues
  intro s rest hagenda
  exact ⟨({ s with agenda := rest } : State).resetBlock, step_of_agenda hagenda, rfl⟩

theorem State.reset_port (p : Port) : State.reset.port p = PortRegs.reset := by
  cases p <;> rfl

theorem bufWord_replicate_zero (k : Fin 17) : bufWord (Vector.replicate 68 0) k = 0 := by
  simp [bufWord, wordOfBytes]

/-- After reset every register but STATUS reads 0 (R40). -/
theorem State.reset_readReg {p : Port} {r : Reg} (hr : r ≠ .status) : State.reset.readReg p r = 0 := by
  cases r with
  | status => exact absurd rfl hr
  | cmd => rfl
  | reserved => rfl
  | buf k => rw [State.readReg, State.reset_port]; exact bufWord_replicate_zero k
  | _ => rw [State.readReg, State.reset_port]; rfl

/-- Settles O57: each piece of State.reset is read off its definition. -/
theorem resetGivesEveryFieldItsValue : Obligations.ResetGivesEveryFieldItsValue := by
  unfold Obligations.ResetGivesEveryFieldItsValue
  refine ⟨fun p r hr => State.reset_readReg hr, fun p => by rw [State.reset_port]; rfl, rfl, rfl, rfl,
    fun i => by simp [State.reset, Key.reset], rfl, rfl, fun j => by simp [State.reset], rfl, rfl, rfl, rfl,
    rfl, fun h hh => ?hid⟩
  case hid =>
    obtain rfl : h = HidInstance.reset 8 := List.mem_singleton.mp hh
    exact ⟨rfl, rfl, fun b hb => List.eq_of_mem_replicate hb⟩

/-! The invariants right after reset. -/

theorem Params.standard_wf : Params.standard.wf = true := by decide

theorem UsbInv.reset : UsbInv State.reset :=
  (UsbInv.resetBlock State.reset).congr rfl

theorem KeysInv.reset : KeysInv State.reset :=
  (KeysInv.resetBlock State.reset).congr rfl rfl

theorem FatalInv.reset : FatalInv State.reset :=
  (FatalInv.resetBlock State.reset).congr rfl rfl

theorem QueueInv.reset : QueueInv State.reset where
  occupancy_le := by decide
  visible_le := by decide
  freed_add := by decide
  producer_le := by decide

/-- Settles O58: the four pointers are equal after reset, and no flag is set. -/
theorem invariantsHoldAtReset : Obligations.InvariantsHoldAtReset := by
  unfold Obligations.InvariantsHoldAtReset
  exact ⟨⟨Params.standard_wf, UsbInv.reset, KeysInv.reset, FatalInv.reset⟩, QueueInv.reset, rfl⟩

end Sys2Proof.Machine
end

section
/-!
PROOFS. The result an operation ends with, and the register window: the address map, the registers an access
reaches, what a read of a register returns and what a write of it keeps (20_memory.md R50 to R58,
60_exceptions.md R182).
-/

namespace Sys2Proof.Machine

/-! ## The results of the operations -/

/-- RESULT of the issuing port after `result(c)` (R24). -/
@[simp] theorem State.regs_setResult_result (s : State) (c : Result) : (s.setResult c).regs.result = c :=
  congrArg PortRegs.result (State.port_setPort_self ..)

@[simp] theorem State.regs_raiseFatal_result (s : State) (c : BitVec 8) :
    (s.raiseFatal c).regs.result = .errFatal :=
  State.regs_setResult_result ..

@[simp] theorem State.regs_scanRead_result (s : State) : s.scanRead.regs.result = .ok :=
  State.regs_setResult_result ..

/-- An operation's own rule ends with a result of its row (R182): each branch of the rule ends in `result(c)`
or in `raise Fatal`. -/
theorem ruleOf_result_mem (i : Instr) (s : State) : (ruleOf i s).regs.result ∈ Instr.results i := by
  cases i with
  | nop => simp [ruleOf, nopRule, Instr.results]
  | init mask => simp [ruleOf, initRule, Instr.results]
  | irqEn v => simp only [ruleOf, irqEnRule]; split <;> simp [Instr.results]
  | readCtrl => simp [ruleOf, readCtrlRule, Instr.results]
  | fatalReq c => simp only [ruleOf, fatalReqRule]; split <;> simp [Instr.results]
  | scan =>
    exact scanRule_cases s (fun t => t.regs.result ∈ Instr.results .scan) (by simp [Instr.results])
      (by simp [Instr.results]) (by simp [Instr.results]) (by simp [Instr.results])
  | evtRead j => simp only [ruleOf, evtReadRule]; split <;> simp [Instr.results]
  | keyRead k => simp [ruleOf, keyReadRule, Instr.results]
  | keyColorRead k => simp [ruleOf, keyColorReadRule, Instr.results]
  | keySetColor sel k => simp [ruleOf, keySetColorRule, Instr.results]
  | keyBcastColor sel => simp [ruleOf, keyBcastColorRule, Instr.results]
  | ledSetBrightness => simp [ruleOf, ledSetBrightnessRule, Instr.results]
  | clkRead => simp only [ruleOf, clkReadRule]; split <;> simp [Instr.results]
  | rngRead =>
    simp only [ruleOf, rngReadRule]
    repeat' split
    all_goals simp [Instr.results]
  | qPush =>
    simp only [ruleOf, qPushRule]
    repeat' split
    all_goals simp [Instr.results]
  | qPop => simp only [ruleOf, qPopRule]; split <;> simp [Instr.results]
  | qLevel => simp only [ruleOf, qLevelRule]; split <;> simp [Instr.results]
  | usbPushKbd =>
    simp only [ruleOf, usbPushKbdRule]
    repeat' split
    all_goals simp [Instr.results]
  | usbPoll => simp only [ruleOf, usbPollRule]; split <;> simp [Instr.results]
  | usbStateRead => simp only [ruleOf, usbStateReadRule]; split <;> simp [Instr.results]

/-- Settles O53: an accepted operation runs its own rule, and the rule ends with a result of its row. -/
theorem resultsAreThoseOfTheTable : Obligations.ResultsAreThoseOfTheTable := by
  unfold Obligations.ResultsAreThoseOfTheTable
  intro i s hacc
  exact ⟨ruleOf i s, exec_of_accepts hacc, ruleOf_result_mem i s⟩

/-! ## The address map -/

/-- The address at an offset of a port's window reaches that port, at that offset (R51, R52). -/
theorem windowPlace_of_lt (c : Params) (p : Port) {off : Nat} (hoff : off < 0x100) :
    windowPlace c (c.blockBase + 0x100 * p.index + off) = some (p, off) := by
  have hsub : c.blockBase + 0x100 * p.index + off - c.blockBase = off + 0x100 * p.index := by omega
  rw [windowPlace, if_neg (by omega), hsub, Nat.add_mul_div_left _ _ (by decide),
    Nat.add_mul_mod_self_left, Nat.div_eq_of_lt hoff, Nat.mod_eq_of_lt hoff, Nat.zero_add]
  cases p <;> rfl

/-- An address that reaches a port is the one at that offset of its window (R51, R52). -/
theorem eq_of_windowPlace {c : Params} {a : Nat} {p : Port} {off : Nat}
    (h : windowPlace c a = some (p, off)) : off < 0x100 ∧ a = c.blockBase + 0x100 * p.index + off := by
  unfold windowPlace at h
  split at h
  · cases h
  · split at h <;> cases h <;> simp only [Port.index] <;> omega

/-- Settles O46: the two directions are the two lemmas above. -/
theorem windowIsTheAddressMap : Obligations.WindowIsTheAddressMap := by
  unfold Obligations.WindowIsTheAddressMap
  intro c a p off
  refine ⟨eq_of_windowPlace, ?_⟩
  rintro ⟨hoff, rfl⟩
  exact windowPlace_of_lt c p hoff

/-- An address reaches no port exactly if it lies outside the 768 bytes (R51). -/
theorem windowPlace_eq_none_iff (c : Params) (a : Nat) :
    windowPlace c a = none ↔ a < c.blockBase ∨ c.blockBase + 768 ≤ a := by
  unfold windowPlace
  split
  · simp [*]
  · split
    case h_4 h0 h1 h2 =>
      have hport : (a - c.blockBase) / 0x100 ≠ 0 ∧ (a - c.blockBase) / 0x100 ≠ 1 ∧
          (a - c.blockBase) / 0x100 ≠ 2 := ⟨h0, h1, h2⟩
      exact iff_of_true rfl (by omega)
    all_goals exact iff_of_false nofun (by omega)

/-! ## Accesses that HDK does not admit -/

theorem State.perform_bus_of_not_placed {s : State} {x : Access} (h : x.place s.cfg = none) :
    s.perform (.bus x) = x.stop s.cfg := by
  rw [State.perform, State.access, h]

theorem Access.wf_iff (x : Access) : x.wf = true ↔ x.width = 4 ∧ x.addr % 4 = 0 := by
  simp [Access.wf]

/-- A sub-word or misaligned access lands nowhere (R55). -/
theorem Access.place_of_not_wf {x : Access} (c : Params) (h : x.width ≠ 4 ∨ x.addr % 4 ≠ 0) :
    x.place c = none :=
  if_neg fun hwf => by
    obtain ⟨hwidth, halign⟩ := x.wf_iff.mp hwf
    exact h.elim (· hwidth) (· halign)

/-- An access outside the window lands nowhere (R51). -/
theorem Access.place_of_outside {x : Access} {c : Params} (h : windowPlace c x.addr = none) :
    x.place c = none := by
  rw [Access.place, h, ite_self]

theorem Access.stop_inside {x : Access} {c : Params} (h : windowPlace c x.addr ≠ none) :
    x.stop c = .refused .badAccess := by
  unfold Access.stop
  split
  · next hnone => exact absurd hnone h
  · rfl

theorem Access.stop_outside {x : Access} {c : Params} (h : windowPlace c x.addr = none) :
    x.stop c = .fault .outsideWindow := by
  rw [Access.stop, h]

/-- Settles O49: neither access lands anywhere, and where its address lies decides the stop. -/
theorem otherAccessesHaveNoStep : Obligations.OtherAccessesHaveNoStep := by
  unfold Obligations.OtherAccessesHaveNoStep
  intro s x
  refine ⟨fun hbad hlow hhigh => ?inside, fun hout => ?outside⟩
  case inside =>
    rw [State.perform_bus_of_not_placed (Access.place_of_not_wf _ hbad)]
    refine Access.stop_inside fun hnone => ?_
    rw [windowPlace_eq_none_iff] at hnone
    omega
  case outside =>
    have hnone := (windowPlace_eq_none_iff s.cfg x.addr).mpr hout
    rw [State.perform_bus_of_not_placed (Access.place_of_outside hnone)]
    exact Access.stop_outside hnone

/-! ## BUF words -/

/-- A write of BUF word k stores the bytes of the value in BUF[4k..4k+3] and keeps every other byte
(R53, R57). -/
theorem getElem_setBufWord (b : Entry) (k : Fin 17) (v : Word) {n : Nat} (hn : n < 68) :
    (setBufWord b k v)[n] = if n / 4 = k.val then v.extractLsb' (8 * (n % 4)) 8 else b[n] := by
  simp only [setBufWord, Vector.getElem_set]
  by_cases hk : n / 4 = k.val
  · rw [if_pos hk]
    rcases (by omega : n % 4 = 0 ∨ n % 4 = 1 ∨ n % 4 = 2 ∨ n % 4 = 3) with h | h | h | h
    · rw [if_neg (by omega), if_neg (by omega), if_neg (by omega), if_pos (by omega), h]
    · rw [if_neg (by omega), if_neg (by omega), if_pos (by omega), h]
    · rw [if_neg (by omega), if_pos (by omega), h]
    · rw [if_pos (by omega), h]
  · rw [if_neg hk, if_neg (by omega), if_neg (by omega), if_neg (by omega), if_neg (by omega)]

/-- A word is the little-endian word of its four bytes (R50). -/
theorem wordOfBytes_extractLsb' (v : Word) :
    wordOfBytes (v.extractLsb' 0 8) (v.extractLsb' 8 8) (v.extractLsb' 16 8) (v.extractLsb' 24 8) = v := by
  rw [wordOfBytes, BitVec.extractLsb'_append_extractLsb'_eq_extractLsb' (by rfl),
    BitVec.extractLsb'_append_extractLsb'_eq_extractLsb' (by rfl),
    BitVec.extractLsb'_append_extractLsb'_eq_extractLsb' (by rfl)]
  exact BitVec.extractLsb'_eq_self

theorem bufWord_setBufWord_self (b : Entry) (k : Fin 17) (v : Word) : bufWord (setBufWord b k v) k = v := by
  simp only [bufWord, getElem_setBufWord]
  rw [if_pos (by omega), if_pos (by omega), if_pos (by omega), if_pos (by omega)]
  simpa [Nat.mul_add_mod] using wordOfBytes_extractLsb' v

theorem bufWord_setBufWord_of_ne (b : Entry) {j k : Fin 17} (h : j ≠ k) (v : Word) :
    bufWord (setBufWord b k v) j = bufWord b j := by
  have hval : j.val ≠ k.val := fun e => h (Fin.ext e)
  simp only [bufWord, getElem_setBufWord]
  rw [if_neg (by omega), if_neg (by omega), if_neg (by omega), if_neg (by omega)]

/-! ## Writes of registers -/

/-- The registers that store what is written to them (R53, R54, R57). -/
def Reg.isOperand (r : Reg) : Prop :=
  r = .data0 ∨ r = .data1 ∨ ∃ k, r = .buf k

theorem State.readReg_writeReg_self {s : State} {p : Port} {r : Reg} (h : r.isOperand) (v : Word) :
    (s.writeReg p r v).readReg p r = v := by
  rcases h with rfl | rfl | ⟨k, rfl⟩
  · simp [State.writeReg, State.readReg]
  · simp [State.writeReg, State.readReg]
  · simp [State.writeReg, State.readReg, bufWord_setBufWord_self]

/-- A register that stores nothing ignores a write (R54). -/
theorem State.writeReg_of_not_operand {s : State} {p : Port} {r : Reg} (h : ¬ r.isOperand) (v : Word) :
    s.writeReg p r v = s := by
  cases r with
  | data0 => exact absurd (.inl rfl) h
  | data1 => exact absurd (.inr (.inl rfl)) h
  | buf k => exact absurd (.inr (.inr ⟨k, rfl⟩)) h
  | _ => rfl

/-- STATUS shows nothing a write of a port's registers changes but RESULT (R24). -/
@[simp] theorem State.setPort_statusWord (s : State) (p : Port) (g : PortRegs) (c : Result) :
    (s.setPort p g).statusWord c = s.statusWord c := rfl

/-- A write of one port's registers does not show in another port's window (R20). -/
theorem State.readReg_setPort_of_ne (s : State) {p q : Port} (h : q ≠ p) (g : PortRegs) (r : Reg) :
    (s.setPort p g).readReg q r = s.readReg q r := by
  cases r <;> simp only [State.readReg, State.port_setPort_of_ne s h, State.setPort_statusWord]

theorem State.readReg_writeReg_of_ne_port (s : State) {p q : Port} (h : q ≠ p) (r r' : Reg) (v : Word) :
    (s.writeReg p r v).readReg q r' = s.readReg q r' := by
  cases r with
  | data0 => exact s.readReg_setPort_of_ne h _ r'
  | data1 => exact s.readReg_setPort_of_ne h _ r'
  | buf k => exact s.readReg_setPort_of_ne h _ r'
  | _ => rfl

theorem State.readReg_writeReg_of_ne_reg (s : State) (p : Port) {r r' : Reg} (h : r' ≠ r) (v : Word) :
    (s.writeReg p r v).readReg p r' = s.readReg p r' := by
  cases r with
  | data0 =>
    cases r' with
    | data0 => exact absurd rfl h
    | _ => simp [State.writeReg, State.readReg]
  | data1 =>
    cases r' with
    | data1 => exact absurd rfl h
    | _ => simp [State.writeReg, State.readReg]
  | buf k =>
    cases r' with
    | buf j =>
      have hjk : j ≠ k := fun e => h (congrArg Reg.buf e)
      simp [State.writeReg, State.readReg, bufWord_setBufWord_of_ne _ hjk]
    | _ => simp [State.writeReg, State.readReg]
  | _ => rfl

/-- Settles O47: read after write, no interference between ports or registers, and the ignored writes. -/
theorem operandWordsReadBack : Obligations.OperandWordsReadBack := by
  unfold Obligations.OperandWordsReadBack
  intro s p q r r' v
  refine ⟨fun h => State.readReg_writeReg_self h v, fun hne => ?other,
    fun h => State.writeReg_of_not_operand h v⟩
  case other =>
    by_cases hq : q = p
    · subst hq
      exact s.readReg_writeReg_of_ne_reg q (fun hr => hne (by rw [hr])) v
    · exact s.readReg_writeReg_of_ne_port hq r r' v

/-! ## Accesses that HDK admits -/

/-- Each register stands at its offset (R53). -/
theorem regAt_offset (r : Reg) : regAt r.offset = r := by
  cases r with
  | buf k => revert k; decide
  | _ => rfl

/-- The offsets between the registers, and those past BUF, are reserved (R53). -/
theorem regAt_reserved {off : Nat} (h : 0x1C ≤ off ∧ off ≤ 0x3C ∨ 0x84 ≤ off ∧ off ≤ 0xFC) :
    regAt off = .reserved := by
  rw [regAt, if_neg (by omega), if_neg (by omega), if_neg (by omega), if_neg (by omega), if_neg (by omega),
    if_neg (by omega), if_neg (by omega), dif_neg (by omega)]

/-- CMD stands at offset 0 alone (R53). -/
theorem regAt_ne_cmd {off : Nat} (h : off ≠ 0) : regAt off ≠ .cmd := by
  unfold regAt
  rw [if_neg h]
  repeat' split
  all_goals simp

theorem Params.blockBase_mod_four {c : Params} (h : c.wf = true) : c.blockBase % 4 = 0 := by
  simp only [Params.wf, Bool.and_eq_true] at h
  obtain ⟨⟨⟨haligned, -⟩, -⟩, -⟩ := h
  have hbase : c.blockBase % 256 = 0 := beq_iff_eq.mp haligned
  omega

/-- A 32-bit access at a 4-aligned offset of a port's window lands there (R52, R55). -/
theorem Access.place_of_aligned {c : Params} (hc : c.wf = true) {x : Access} {p : Port} {off : Nat}
    (hwidth : x.width = 4) (haddr : x.addr = c.blockBase + 0x100 * p.index + off) (hoff : off < 0x100)
    (halign : off % 4 = 0) : x.place c = some (p, off) := by
  have hbase := Params.blockBase_mod_four hc
  have hwf : x.wf = true := x.wf_iff.mpr ⟨hwidth, by omega⟩
  rw [Access.place, if_pos hwf, haddr]
  exact windowPlace_of_lt c p hoff

theorem State.perform_bus_of_placed {s : State} {x : Access} {p : Port} {off : Nat}
    (h : x.place s.cfg = some (p, off)) : s.perform (.bus x) = s.accessAt x p off := by
  rw [State.perform, State.access, h]

/-- A step whose access lands in a window is that access at its offset (R52). -/
theorem step_bus_of_placed {s : State} {x : Access} {rest : List Act} {p : Port} {off : Nat}
    (hagenda : s.agenda = .bus x :: rest) (hplace : x.place s.cfg = some (p, off)) :
    step s = ({ s with agenda := rest } : State).accessAt x p off :=
  (step_of_agenda hagenda).trans
    (State.perform_bus_of_placed (s := { s with agenda := rest }) hplace)

/-- A write at an offset of another register than CMD is the write of that register (R53). -/
theorem State.accessAt_write_of_ne_cmd {s : State} {p : Port} {off : Nat} (h : regAt off ≠ .cmd)
    (w a : Nat) (v : Word) : s.accessAt (.write w a v) p off = .next (s.writeReg p (regAt off) v) := by
  cases hr : regAt off with
  | cmd => exact absurd hr h
  | _ => simp only [State.accessAt, hr]

/-- What a register reads does not depend on the agents' next steps. -/
theorem State.readReg_agenda (s : State) (l : List Act) (p : Port) (r : Reg) :
    ({ s with agenda := l } : State).readReg p r = s.readReg p r := by
  cases r <;> rfl

/-- Settles O48: the map is regAt, the reads are readReg, and an admitted access lands at its offset. -/
theorem accessesReachTheirRegister : Obligations.AccessesReachTheirRegister := by
  unfold Obligations.AccessesReachTheirRegister
  refine ⟨?map, fun s p => ⟨rfl, rfl, rfl, rfl, rfl, rfl, rfl, fun k => rfl⟩, ?access⟩
  case map =>
    exact ⟨regAt_offset .cmd, regAt_offset .data0, regAt_offset .data1, regAt_offset .resp0,
      regAt_offset .resp1, regAt_offset .resp2, regAt_offset .status, fun k => regAt_offset (.buf k),
      fun off h => regAt_reserved h⟩
  case access =>
    intro s p off v rest hc hoff halign
    refine ⟨fun hagenda => ?read, fun hagenda hne => ?write⟩
    case read =>
      rw [step_bus_of_placed hagenda (Access.place_of_aligned hc rfl rfl hoff halign), State.accessAt,
        State.readReg_agenda]
    case write =>
      rw [step_bus_of_placed hagenda (Access.place_of_aligned hc rfl rfl hoff halign)]
      exact State.accessAt_write_of_ne_cmd (regAt_ne_cmd hne) _ _ v

end Sys2Proof.Machine
end

section
/-!
PROOFS. Command words: the formats as patterns of bits, the opcode map as a table of such patterns, decode and
encode as inverses, and what an ILLEGAL word does (30_encoding.md R71 to R76, 45_system.md R170).
-/

namespace Sys2Proof

/-! ## Bit vectors cut into parts -/

theorem append_eq_append_iff {m n : Nat} {a c : BitVec m} {b d : BitVec n} :
    a ++ b = c ++ d ↔ a = c ∧ b = d := by
  refine ⟨fun h => ⟨?high, ?low⟩, fun ⟨hac, hbd⟩ => by rw [hac, hbd]⟩
  case high => simpa only [BitVec.extractLsb'_append_eq_left] using congrArg (BitVec.extractLsb' n m) h
  case low => simpa only [BitVec.extractLsb'_append_eq_right] using congrArg (BitVec.extractLsb' 0 n) h

theorem exists_eq_append {m n : Nat} (w : BitVec (m + n)) :
    ∃ (hi : BitVec m) (lo : BitVec n), w = hi ++ lo :=
  ⟨_, _, BitVec.extractLsb'_append_extractLsb'.symm⟩

theorem extractLsb'_append_append_middle {m n k : Nat} (hi : BitVec m) (mid : BitVec n) (lo : BitVec k) :
    (hi ++ mid ++ lo).extractLsb' k n = mid := by
  rw [BitVec.extractLsb'_append_eq_of_le (Nat.le_refl k), Nat.sub_self, BitVec.extractLsb'_append_eq_right]

theorem extractLsb'_width_one {n : Nat} (w : BitVec n) (i : Nat) :
    w.extractLsb' i 1 = BitVec.ofBool (w.getLsbD i) := by
  ext j hj
  simp [show j = 0 by omega]

/-- Fixed bits above one field: the mask clears the field, the match is the word with the field at 0. -/
theorem append_eq_iff_lowField {m n : Nat} (hi : BitVec m) (f : BitVec n) (w : BitVec (m + n)) :
    hi ++ f = w ↔ w &&& (BitVec.allOnes m ++ 0#n) = hi ++ 0#n ∧ w.extractLsb' 0 n = f := by
  obtain ⟨whi, wlo, rfl⟩ := exists_eq_append w
  simp only [BitVec.and_append, append_eq_append_iff, BitVec.extractLsb'_append_eq_right,
    BitVec.and_allOnes, BitVec.and_zero, and_true, eq_comm]

/-- Fixed bits above two fields. -/
theorem append_eq_iff_twoFields {m n k : Nat} (hi : BitVec m) (f : BitVec n) (g : BitVec k)
    (w : BitVec (m + n + k)) :
    hi ++ f ++ g = w ↔ w &&& (BitVec.allOnes m ++ 0#n ++ 0#k) = hi ++ 0#n ++ 0#k ∧
      w.extractLsb' k n = f ∧ w.extractLsb' 0 k = g := by
  obtain ⟨wtop, wlo, rfl⟩ := exists_eq_append w
  obtain ⟨whi, wmid, rfl⟩ := exists_eq_append wtop
  simp only [BitVec.and_append, append_eq_append_iff, BitVec.extractLsb'_append_eq_right,
    extractLsb'_append_append_middle, BitVec.and_allOnes, BitVec.and_zero, and_true, and_assoc, eq_comm]

/-- Fixed bits on both sides of one field. -/
theorem append_eq_iff_middleField {m n k : Nat} (hi : BitVec m) (f : BitVec n) (lo : BitVec k)
    (w : BitVec (m + n + k)) :
    hi ++ f ++ lo = w ↔ w &&& (BitVec.allOnes m ++ 0#n ++ BitVec.allOnes k) = hi ++ 0#n ++ lo ∧
      w.extractLsb' k n = f := by
  obtain ⟨wtop, wlo, rfl⟩ := exists_eq_append w
  obtain ⟨whi, wmid, rfl⟩ := exists_eq_append wtop
  simp only [BitVec.and_append, append_eq_append_iff, extractLsb'_append_append_middle,
    BitVec.and_allOnes, BitVec.and_zero, and_true, and_right_comm, eq_comm]

/-! ## The fields and the formats -/

theorem idxField_eq_iff (w : Word) (i : Fin 16) : idxField w = i ↔ w.extractLsb' 0 4 = idxBits i :=
  BitVec.toFin_inj (y := idxBits i)

theorem selField_eq_iff (w : Word) (sel : ColorSel) :
    selField w = sel ↔ w.extractLsb' 4 1 = selBit sel := by
  rw [extractLsb'_width_one, selField]
  cases w.getLsbD 4 <;> cases sel <;> decide

theorem getLsbD_zero_eq_iff (w : Word) (v : Bool) :
    w.getLsbD 0 = v ↔ w.extractLsb' 0 1 = BitVec.ofBool v := by
  rw [extractLsb'_width_one]
  cases w.getLsbD 0 <;> cases v <;> decide

theorem formatN_eq_iff (op : BitVec 8) (w : Word) : formatN op = w ↔ w &&& 0xFFFFFFFF = formatN op := by
  rw [show (0xFFFFFFFF : Word) = BitVec.allOnes 32 from rfl, BitVec.and_allOnes, eq_comm]

theorem formatU_eq_iff (op : BitVec 8) (f : BitVec 4) (w : Word) :
    formatU op f = w ↔ w &&& 0xFFFFFFF0 = formatU op 0 ∧ w.extractLsb' 0 4 = f :=
  append_eq_iff_lowField (op ++ 0#20) f w

/-- Format I is format U with an index in its field. -/
theorem formatU_idxBits_eq_iff (op : BitVec 8) (i : Fin 16) (w : Word) :
    formatU op (idxBits i) = w ↔ w &&& 0xFFFFFFF0 = formatU op 0 ∧ idxField w = i := by
  rw [idxField_eq_iff]
  exact formatU_eq_iff op (idxBits i) w

theorem formatB_eq_iff (op : BitVec 8) (v : Bool) (w : Word) :
    formatB op v = w ↔ w &&& 0xFFFFFFFE = formatB op false ∧ w.getLsbD 0 = v := by
  rw [getLsbD_zero_eq_iff]
  exact append_eq_iff_lowField (op ++ 0#23) (BitVec.ofBool v) w

theorem formatC_eq_iff (op cause : BitVec 8) (w : Word) :
    formatC op cause = w ↔ w &&& 0xFFFFFF00 = formatC op 0 ∧ w.extractLsb' 0 8 = cause :=
  append_eq_iff_lowField (op ++ 0#16) cause w

theorem formatK_eq_iff (op : BitVec 8) (bc : BitVec 1) (sel : ColorSel) (key : Fin 16) (w : Word) :
    formatK op bc sel (idxBits key) = w ↔
      w &&& 0xFFFFFFE0 = formatK op bc .defColor 0 ∧ selField w = sel ∧ idxField w = key := by
  rw [selField_eq_iff, idxField_eq_iff]
  exact append_eq_iff_twoFields (op ++ 0#18 ++ bc) (selBit sel) (idxBits key) w

/-- Format K with KEY = 0000, as KEY_BCAST_COLOR has it. -/
theorem formatK_zero_eq_iff (op : BitVec 8) (bc : BitVec 1) (sel : ColorSel) (w : Word) :
    formatK op bc sel 0 = w ↔
      w &&& 0xFFFFFFEF = formatK op bc .defColor 0 ∧ selField w = sel := by
  rw [selField_eq_iff]
  exact append_eq_iff_middleField (op ++ 0#18 ++ bc) (selBit sel) 0#4 w

/-! ## The opcode map -/

/-- Two rows whose matches differ in a bit that both masks keep. -/
def Row.Conflicts (r r' : Row) : Prop :=
  r.matchBits &&& r'.mask ≠ r'.matchBits &&& r.mask

theorem Row.holds_iff (r : Row) (w : Word) : r.holds w = true ↔ w &&& r.mask = r.matchBits :=
  beq_iff_eq

theorem Row.Conflicts.not_both_hold {r r' : Row} (h : r.Conflicts r') (w : Word) :
    ¬(r.holds w = true ∧ r'.holds w = true) := by
  rintro ⟨hr, hr'⟩
  rw [Row.holds_iff] at hr hr'
  refine h ?_
  calc r.matchBits &&& r'.mask = w &&& r.mask &&& r'.mask := by rw [hr]
    _ = w &&& r'.mask &&& r.mask := by rw [BitVec.and_assoc, BitVec.and_comm r.mask, BitVec.and_assoc]
    _ = r'.matchBits &&& r.mask := by rw [hr']

theorem opcodeMap_conflicts : opcodeMap.Pairwise Row.Conflicts := by
  unfold Row.Conflicts
  decide

theorem decode_of_holds {r : Row} {w : Word} (hr : r ∈ opcodeMap) (hw : r.holds w = true) :
    decode w = .ok (r.build w) := by
  obtain ⟨before, after, hmap⟩ := List.append_of_mem hr
  have hbefore : ∀ q ∈ before, (!q.holds w) = true := by
    have hconflicts := opcodeMap_conflicts
    rw [hmap, List.pairwise_append] at hconflicts
    obtain ⟨-, -, hacross⟩ := hconflicts
    intro q hq
    have := (hacross q hq r List.mem_cons_self).not_both_hold w
    simpa [hw] using this
  have hfind : opcodeMap.find? (fun q => q.holds w) = some r :=
    List.find?_eq_some_iff_append.mpr ⟨hw, before, after, hmap, hbefore⟩
  rw [decode, hfind]

theorem decode_of_no_row {w : Word} (h : ∀ r ∈ opcodeMap, r.holds w = false) :
    decode w = .error (illegalReason w) := by
  rw [decode, List.find?_eq_none.mpr fun r hr => by simp [h r hr]]

theorem decode_eq_ok_iff (w : Word) (i : Instr) :
    decode w = .ok i ↔ ∃ r ∈ opcodeMap, r.holds w = true ∧ r.build w = i := by
  refine ⟨fun h => ?row, fun ⟨r, hr, hw, hi⟩ => hi ▸ decode_of_holds hr hw⟩
  by_cases hrow : ∃ r ∈ opcodeMap, r.holds w = true
  · obtain ⟨r, hr, hw⟩ := hrow
    rw [decode_of_holds hr hw] at h
    exact ⟨r, hr, hw, Except.ok.inj h⟩
  · rw [decode_of_no_row (by simpa using hrow)] at h
    cases h

/-- The words of an operation are its one command word: the mask and match of its row (the first step of each
case) are those of its format (the second). -/
theorem decode_eq_ok_iff_encode_eq (w : Word) (i : Instr) : decode w = .ok i ↔ encode i = w := by
  cases i with
  | init mask =>
    calc decode w = .ok (.init mask) ↔ w &&& 0xFFFFFFF0 = 0x01000000 ∧ w.extractLsb' 0 4 = mask := by
          simp [decode_eq_ok_iff, opcodeMap, Row.holds]
      _ ↔ formatU 0x01 mask = w := (formatU_eq_iff 0x01 mask w).symm
  | irqEn v =>
    calc decode w = .ok (.irqEn v) ↔ w &&& 0xFFFFFFFE = 0x02000000 ∧ w.getLsbD 0 = v := by
          simp [decode_eq_ok_iff, opcodeMap, Row.holds]
      _ ↔ formatB 0x02 v = w := (formatB_eq_iff 0x02 v w).symm
  | fatalReq cause =>
    calc decode w = .ok (.fatalReq cause) ↔ w &&& 0xFFFFFF00 = 0x04000000 ∧ w.extractLsb' 0 8 = cause := by
          simp [decode_eq_ok_iff, opcodeMap, Row.holds]
      _ ↔ formatC 0x04 cause = w := (formatC_eq_iff 0x04 cause w).symm
  | evtRead idx =>
    calc decode w = .ok (.evtRead idx) ↔ w &&& 0xFFFFFFF0 = 0x11000000 ∧ idxField w = idx := by
          simp [decode_eq_ok_iff, opcodeMap, Row.holds]
      _ ↔ formatU 0x11 (idxBits idx) = w := (formatU_idxBits_eq_iff 0x11 idx w).symm
  | keyRead idx =>
    calc decode w = .ok (.keyRead idx) ↔ w &&& 0xFFFFFFF0 = 0x12000000 ∧ idxField w = idx := by
          simp [decode_eq_ok_iff, opcodeMap, Row.holds]
      _ ↔ formatU 0x12 (idxBits idx) = w := (formatU_idxBits_eq_iff 0x12 idx w).symm
  | keyColorRead idx =>
    calc decode w = .ok (.keyColorRead idx) ↔ w &&& 0xFFFFFFF0 = 0x13000000 ∧ idxField w = idx := by
          simp [decode_eq_ok_iff, opcodeMap, Row.holds]
      _ ↔ formatU 0x13 (idxBits idx) = w := (formatU_idxBits_eq_iff 0x13 idx w).symm
  | keySetColor sel key =>
    calc decode w = .ok (.keySetColor sel key) ↔
          w &&& 0xFFFFFFE0 = 0x14000000 ∧ selField w = sel ∧ idxField w = key := by
          simp [decode_eq_ok_iff, opcodeMap, Row.holds]
      _ ↔ formatK 0x14 0 sel (idxBits key) = w := (formatK_eq_iff 0x14 0 sel key w).symm
  | keyBcastColor sel =>
    calc decode w = .ok (.keyBcastColor sel) ↔ w &&& 0xFFFFFFEF = 0x14000020 ∧ selField w = sel := by
          simp [decode_eq_ok_iff, opcodeMap, Row.holds]
      _ ↔ formatK 0x14 1 sel 0 = w := (formatK_zero_eq_iff 0x14 1 sel w).symm
  | nop | readCtrl | scan | ledSetBrightness | clkRead | rngRead | qPush | qPop | qLevel | usbPushKbd
  | usbPoll | usbStateRead =>
    rw [encode, formatN_eq_iff]
    simp [decode_eq_ok_iff, opcodeMap, Row.holds, formatN]

/-- Settles O2: both halves are the equivalence of decode with encode. -/
theorem decodeAndEncodeAgree : Obligations.DecodeAndEncodeAgree := by
  unfold Obligations.DecodeAndEncodeAgree
  exact ⟨fun i => (decode_eq_ok_iff_encode_eq _ i).mpr rfl, fun w i => (decode_eq_ok_iff_encode_eq w i).mp⟩

/-- Settles O1: any two rows of the map conflict, so the first row that matches is the only one. -/
theorem decodeIsTheMatchingRow : Obligations.DecodeIsTheMatchingRow := by
  unfold Obligations.DecodeIsTheMatchingRow
  exact ⟨opcodeMap_conflicts.imp Row.Conflicts.not_both_hold, fun _ _ => decode_of_holds,
    fun _ h => ⟨_, decode_of_no_row h⟩⟩

/-- Settles O3: eight of the words are those of encode, and no row matches the other two. -/
theorem listedWordsDecode : Obligations.ListedWordsDecode := by
  unfold Obligations.ListedWordsDecode
  have legal {w : Word} {i : Instr} : encode i = w → decode w = .ok i := (decode_eq_ok_iff_encode_eq w i).mpr
  exact ⟨legal rfl, legal rfl, legal rfl, legal rfl, legal rfl, legal rfl, legal rfl, legal rfl,
    decode_of_no_row (by decide), decode_of_no_row (by decide +kernel)⟩

namespace Machine

/-! ## ILLEGAL words -/

theorem State.startsTooEarly_onPort_eq_false {s : State} {p : Port}
    (h : p = .p2 → s.clkEn = true ∧ s.qEn = true) : (s.onPort p).startsTooEarly = false := by
  cases p with
  | p0 | p1 => rfl
  | p2 =>
    obtain ⟨hclk, hq⟩ := h rfl
    simp [State.startsTooEarly, State.onPort, hclk, hq]

theorem State.issueCommand_of_illegal {s : State} {p : Port} {w : Word} {why : Illegal}
    (h : decode w = .error why) : s.issueCommand p w = .next (dispatchIllegal (s.onPort p)) := by
  rw [State.issueCommand, h]

/-- Past the first two checks of R170, an ILLEGAL word ends at the third. -/
theorem dispatchIllegal_eq_errIllegal {s : State} (hfatal : s.fatal = false)
    (hearly : s.startsTooEarly = false) : dispatchIllegal s = s.setResult .errIllegal :=
  dispatchIllegal_cases s (· = s.setResult .errIllegal) (fun h => absurd h (by simp [hfatal]))
    (fun _ h => absurd h (by simp [hearly])) fun _ _ => rfl

/-- Settles O5: the fatal state and an early P2 are ruled out, so the front end answers ERR_ILLEGAL. -/
theorem illegalWordOnlyWritesResult : Obligations.IllegalWordOnlyWritesResult := by
  unfold Obligations.IllegalWordOnlyWritesResult
  intro s p w why hdecode hfatal hp2
  have hearly : (s.onPort p).startsTooEarly = false := State.startsTooEarly_onPort_eq_false hp2
  rw [State.issueCommand_of_illegal hdecode, dispatchIllegal_eq_errIllegal (s := s.onPort p) hfatal hearly]
  cases p <;> rfl

end Machine

end Sys2Proof
end

section
/-!
PROOFS. The clock, the entropy unit and the environment's own steps, and when a scan reports a key as held
(40_clock_entropy.md R90 to R95, 42_scanner.md R110, R113, R114, R122, 43_queue.md R134).
-/

namespace Sys2Proof.Machine

/-! ## The hold threshold -/

theorem Params.tickNs_pos {c : Params} (h : c.wf = true) : 0 < c.tickNs := by
  simp only [Params.wf, Params.tickPositive, Bool.and_eq_true, decide_eq_true_eq] at h
  obtain ⟨⟨⟨-, hpos⟩, -⟩, -⟩ := h
  exact hpos

theorem holdTicks_eq_ceilDiv {c : Params} (h : 0 < c.tickNs) : holdTicks c = 750000000 ⌈/⌉ c.tickNs := by
  rw [Nat.ceilDiv_eq_add_pred_div, holdTicks, Nat.add_sub_assoc h]

/-- The threshold is exact: that many ticks, and no fewer, take at least 750 ms (R95). -/
theorem holdTicks_le_iff {c : Params} (h : 0 < c.tickNs) (n : Nat) :
    holdTicks c ≤ n ↔ 750000000 ≤ n * c.tickNs := by
  rw [holdTicks_eq_ceilDiv h, ceilDiv_le_iff_le_mul h, Nat.mul_comm]

theorem holdTicks_pos {c : Params} (h : 0 < c.tickNs) : 0 < holdTicks c := by
  have hzero := holdTicks_le_iff h 0
  omega

theorem holdTicks_pred_mul_lt {c : Params} (h : 0 < c.tickNs) :
    (holdTicks c - 1) * c.tickNs < 750000000 := by
  have hpos := holdTicks_pos h
  have hpred := holdTicks_le_iff h (holdTicks c - 1)
  omega

/-! ## What a completed scan reports -/

/-- The state in which SCAN evaluates its keypad read: the event list is empty, the LED frame is sent, and
BUSOK has been asked for both transactions (R113). -/
def State.atKeypadRead (s : State) : State :=
  (s.clearEvents.sendLed s.ledFrame).busAsked

@[simp] theorem State.atKeypadRead_cfg (s : State) : s.atKeypadRead.cfg = s.cfg := by
  simp [State.atKeypadRead, State.sendLed]

@[simp] theorem State.atKeypadRead_keys (s : State) : s.atKeypadRead.keys = s.keys := by
  simp [State.atKeypadRead, State.sendLed]

@[simp] theorem State.atKeypadRead_clk (s : State) : s.atKeypadRead.clk = s.clk := by
  simp [State.atKeypadRead, State.sendLed]

@[simp] theorem State.atKeypadRead_kpLines (s : State) : s.atKeypadRead.kpLines = s.kpLines := by
  simp [State.atKeypadRead, State.sendLed]

@[simp] theorem State.atKeypadRead_evtCount (s : State) : s.atKeypadRead.evtCount = 0 := by
  simp [State.atKeypadRead, State.sendLed]

@[simp] theorem State.atKeypadRead_keyEvent (s : State) (i : Fin 16) :
    s.atKeypadRead.keyEvent i = s.keyEvent i := by
  simp [State.keyEvent, State.keyDown]

/-- SCAN returns OK only when both its transactions succeed (R113). -/
theorem scanRule_eq_scanRead_of_ok {s : State} (h : (scanRule s).regs.result = .ok) :
    scanRule s = s.atKeypadRead.scanRead := by
  revert h
  refine scanRule_cases s (fun t => t.regs.result = .ok → t = s.atKeypadRead.scanRead)
    ?notInit ?led ?keypad ?read
  case notInit | led | keypad => simp
  case read => exact fun _ => rfl

/-- SCAN is P0's, so a completed SCAN shows its OK there (R113, R171). -/
theorem eq_scanRead_of_exec_scan_ok {s t : State} (hacc : s.accepts .scan = true)
    (h : exec .scan s = .next t) (hok : t.p0.result = .ok) : t = s.atKeypadRead.scanRead := by
  obtain ⟨-, -, hport⟩ := (s.accepts_iff .scan).mp hacc
  rw [exec_of_accepts hacc] at h
  obtain rfl : scanRule s = t := Host.Outcome.next.inj h
  have hissuing : (scanRule s).issuing = .p0 :=
    (ruleOf_issuing .scan s).trans (List.mem_singleton.mp hport)
  refine scanRule_eq_scanRead_of_ok ?_
  rwa [State.regs, hissuing]

theorem State.scanRead_events {s : State} (h : s.evtCount = 0) :
    s.scanRead.events =
      s.eventWords (pressedMask s.keypadBytes.1 s.keypadBytes.2) s.clk indices := by
  obtain ⟨-, -, hevents, -⟩ :=
    s.scanKeys_spec (pressedMask s.keypadBytes.1 s.keypadBytes.2) s.clk h
  rw [← hevents]
  simp [State.events, State.scanRead]

/-- A scan from an empty event list lists exactly the events of R114. -/
theorem State.eventWord_mem_scanRead_events_iff {s : State} (h : s.evtCount = 0) (i : Fin 16)
    (kind : EventKind) : eventWord i kind ∈ s.scanRead.events ↔ s.keyEvent i = some kind := by
  simp only [State.scanRead_events h, State.eventWords, List.mem_filterMap, State.keyOut_scan,
    Option.map_eq_some_iff]
  constructor
  · rintro ⟨j, -, k, hevent, hword⟩
    obtain ⟨rfl, rfl⟩ := eventWord_inj hword
    exact hevent
  · exact fun hevent => ⟨i, mem_indices i, kind, hevent, rfl⟩

/-- A scan leaves a key it reports as Held marked held (R114). -/
theorem State.scanRead_held_of_keyEvent {s : State} (h : s.evtCount = 0) {i : Fin 16}
    (hevent : s.keyEvent i = some .held) : s.scanRead.keys[i].held = true := by
  obtain ⟨hkeys, -⟩ := s.scanKeys_spec (pressedMask s.keypadBytes.1 s.keypadBytes.2) s.clk h
  rw [State.scanRead_keys, hkeys i, State.keyOut_scan]
  exact if_pos hevent

theorem State.keyEvent_eq_held_iff (s : State) (i : Fin 16) :
    s.keyEvent i = some .held ↔ s.keyDown i = true ∧ s.keys[i].pressed = true ∧
      holdTicks s.cfg ≤ (s.clk - s.keys[i].lastPress).toNat := by
  unfold State.keyEvent
  cases s.keyDown i <;> cases s.keys[i].pressed <;> simp

/-- Settles O23: a listed Held is the event of R114, and this event asks for the threshold. -/
theorem heldNeedsTheThreshold : Obligations.HeldNeedsTheThreshold := by
  unfold Obligations.HeldNeedsTheThreshold
  intro s t i hwf hacc hexec hok hmem
  have htick := Params.tickNs_pos hwf
  obtain rfl := eq_scanRead_of_exec_scan_ok hacc hexec hok
  have hevent := (State.eventWord_mem_scanRead_events_iff s.atKeypadRead_evtCount i .held).mp hmem
  have hheld := State.scanRead_held_of_keyEvent s.atKeypadRead_evtCount hevent
  rw [State.atKeypadRead_keyEvent, State.keyEvent_eq_held_iff] at hevent
  obtain ⟨hdown, hpressed, hthreshold⟩ := hevent
  exact ⟨hdown, hpressed, hheld, (holdTicks_le_iff htick _).mp hthreshold, hthreshold,
    holdTicks_pred_mul_lt htick⟩

/-! ## The answers of an operation as one write of the issuing port -/

@[simp] theorem State.regs_withRegs (s : State) (r : PortRegs) : (s.withRegs r).regs = r :=
  State.port_setPort_self ..

@[simp] theorem State.withRegs_withRegs (s : State) (r r' : PortRegs) :
    (s.withRegs r).withRegs r' = s.withRegs r' :=
  State.setPort_setPort ..

theorem State.setResult_eq_withRegs (s : State) (c : Result) :
    s.setResult c = s.withRegs { s.regs with result := c } := rfl

theorem State.setResp0_eq_withRegs (s : State) (v : Word) :
    s.setResp0 v = s.withRegs { s.regs with resp0 := v } := rfl

theorem State.setResp1_eq_withRegs (s : State) (v : Word) :
    s.setResp1 v = s.withRegs { s.regs with resp1 := v } := rfl

/-! ## CLK_READ -/

theorem clkReadRule_of_not_init {s : State} (h : s.clkEn = false) :
    clkReadRule s = s.withRegs { s.regs with result := .errNotInit } := by
  rw [clkReadRule, h]
  rfl

theorem clkReadRule_of_init {s : State} (h : s.clkEn = true) :
    clkReadRule s = s.withRegs { s.regs with
      resp0 := s.clk.extractLsb' 0 32, resp1 := s.clk.extractLsb' 32 32, result := .ok } := by
  simp [clkReadRule, h, State.setResult_eq_withRegs, State.setResp0_eq_withRegs,
    State.setResp1_eq_withRegs]

/-- Settles O14: the two answers are bits 31:0 and 63:32 of the one clk that the rule reads. -/
theorem clkReadReturnsOneSnapshot : Obligations.ClkReadReturnsOneSnapshot := by
  unfold Obligations.ClkReadReturnsOneSnapshot
  refine ⟨rfl, fun p => by cases p <;> decide, fun s hacc => ?_⟩
  rw [exec_of_accepts hacc]
  refine ⟨fun hoff => congrArg _ (clkReadRule_of_not_init hoff), fun hon => ?_⟩
  exact ⟨_, _, BitVec.extractLsb'_append_extractLsb', congrArg _ (clkReadRule_of_init hon)⟩

/-! ## RNG_READ -/

theorem rngReadRule_of_not_init {s : State} (h : s.rngEn = false) :
    rngReadRule s = s.withRegs { s.regs with result := .errNotInit } := by
  rw [rngReadRule, h]
  rfl

theorem rngReadRule_of_init {s : State} (h : s.rngEn = true) :
    rngReadRule s =
      if s.regs.data1 ≤ s.regs.data0 then (s.setResp0 0).setResult .errRange
      else (s.jitterAsked.setResp0 (s.jitterAnswer s.regs.data0 s.regs.data1)).setResult .ok := by
  rw [rngReadRule, h]
  rfl

theorem rngReadRule_of_empty {s : State} (h : s.rngEn = true) (hempty : s.regs.data1 ≤ s.regs.data0) :
    rngReadRule s = s.withRegs { s.regs with resp0 := 0, result := .errRange } := by
  rw [rngReadRule_of_init h, if_pos hempty]
  simp [State.setResult_eq_withRegs, State.setResp0_eq_withRegs]

@[simp] theorem State.regs_jitterAsked (s : State) : s.jitterAsked.regs = s.regs := by
  rw [State.regs, State.regs, State.jitterAsked_issuing_port, State.jitterAsked_issuing]

theorem rngReadRule_of_range {s : State} (h : s.rngEn = true) (hrange : s.regs.data0 < s.regs.data1) :
    rngReadRule s = s.jitterAsked.withRegs { s.regs with
      resp0 := s.jitterAnswer s.regs.data0 s.regs.data1, result := .ok } := by
  rw [rngReadRule_of_init h, if_neg (BitVec.not_le.mpr hrange)]
  simp [State.setResult_eq_withRegs, State.setResp0_eq_withRegs]

/-- Settles O15: past the two checks the answer is JITTER's, which lies in the range whatever is drawn. -/
theorem rngReadStaysInRange : Obligations.RngReadStaysInRange := by
  unfold Obligations.RngReadStaysInRange
  refine ⟨rfl, fun p => by cases p <;> decide, fun s hacc => ?_⟩
  rw [exec_of_accepts hacc]
  refine ⟨fun hoff => congrArg _ (rngReadRule_of_not_init hoff),
    fun hon hempty => congrArg _ (rngReadRule_of_empty hon hempty), fun hon hrange => ?_⟩
  obtain ⟨hlo, hhi⟩ := s.jitterAnswer_range s.regs.data0 s.regs.data1 hrange
  exact ⟨_, hlo, hhi, congrArg _ (rngReadRule_of_range hon hrange)⟩

/-! ## The steps of the environment that move one field -/

theorem State.perform_tick_of_init {s : State} (h : s.clkEn = true) :
    s.perform .tick = .next { s with clk := s.clk + 1 } := by
  rw [State.perform, stepIf_of_enabled _ h, State.tick, if_pos h]

theorem State.perform_tick_of_not_init {s : State} (h : s.clkEn = false) :
    s.perform .tick = .refused .notEnabled :=
  stepIf_of_not_enabled _ (by simp [h])

/-- Settles O60: each step is that of the agenda's head, and TICK alone has a condition. -/
theorem environmentStepsChangeOneField : Obligations.EnvironmentStepsChangeOneField := by
  unfold Obligations.EnvironmentStepsChangeOneField
  intro s rest lines
  refine ⟨fun hagenda hon => ?tick, fun hagenda hoff => ?noTick, fun hagenda => ?syncW,
    fun hagenda => ?syncR, fun hagenda => ?keypad⟩
  case tick => exact (step_of_agenda hagenda).trans (State.perform_tick_of_init hon)
  case noTick => exact (step_of_agenda hagenda).trans (State.perform_tick_of_not_init hoff)
  case syncW | syncR | keypad => exact step_of_agenda hagenda

end Sys2Proof.Machine
end

section
/-!
PROOFS. The LED strip: the brightness level of a binary32 operand, LED_SET_BRIGHTNESS, and the frame
(41_led.md R100 to R107).
-/

namespace Sys2Proof.Machine

/-! ## Rounding to 24 significant bits -/

theorem bitLen_eq {p k : Nat} (hlo : 2 ^ k ≤ p) (hhi : p < 2 ^ (k + 1)) : bitLen p = k + 1 := by
  have hpos : p ≠ 0 := (Nat.lt_of_lt_of_le (Nat.two_pow_pos k) hlo).ne'
  rw [bitLen, if_neg hpos, (Nat.log2_eq_iff hpos).mpr ⟨hlo, hhi⟩]

/-- A number of 28 bits loses its low four. -/
theorem rne24_of_28_bits {p : Nat} (hlo : 2 ^ 27 ≤ p) (hhi : p < 2 ^ 28) :
    rne24 p = 16 * (p / 16 + if 8 < p % 16 ∨ p % 16 = 8 ∧ p / 16 % 2 = 1 then 1 else 0) := by
  simp [rne24, bitLen_eq hlo hhi, Nat.shiftRight_eq_div_pow, Nat.shiftLeft_eq, Nat.mul_comm]

/-- A number of 29 bits loses its low five. -/
theorem rne24_of_29_bits {p : Nat} (hlo : 2 ^ 28 ≤ p) (hhi : p < 2 ^ 29) :
    rne24 p = 32 * (p / 32 + if 16 < p % 32 ∨ p % 32 = 16 ∧ p / 32 % 2 = 1 then 1 else 0) := by
  simp [rne24, bitLen_eq hlo hhi, Nat.shiftRight_eq_div_pow, Nat.shiftLeft_eq, Nat.mul_comm]

/-- Rounding keeps the order, also across the step from 28 to 29 bits. -/
theorem rne24_mono {p q : Nat} (hp : 2 ^ 27 ≤ p) (hpq : p ≤ q) (hq : q < 2 ^ 29) : rne24 p ≤ rne24 q := by
  rcases Nat.lt_or_ge q (2 ^ 28) with hq28 | hq28
  · rw [rne24_of_28_bits hp (by omega), rne24_of_28_bits (by omega) hq28]
    split <;> split <;> omega
  · rcases Nat.lt_or_ge p (2 ^ 28) with hp28 | hp28
    · rw [rne24_of_28_bits hp hp28, rne24_of_29_bits hq28 hq]
      split <;> split <;> omega
    · rw [rne24_of_29_bits hp28 (by omega), rne24_of_29_bits hq28 hq]
      split <;> split <;> omega

/-! ## The level of a binary32 pattern -/

/-- 31 times the significand 1.f, rounded: the product of R105 in units of the significand's last place. -/
def roundedProduct (f : Nat) : Nat :=
  rne24 (31 * (2 ^ 23 + f))

theorem roundedProduct_mono {f g : Nat} (hfg : f ≤ g) (hg : g < 2 ^ 23) :
    roundedProduct f ≤ roundedProduct g :=
  rne24_mono (by omega) (by omega) (by omega)

theorem le_roundedProduct {f : Nat} (hf : f < 2 ^ 23) : 31 * 2 ^ 23 ≤ roundedProduct f :=
  calc 31 * 2 ^ 23 = roundedProduct 0 := by decide +kernel
    _ ≤ roundedProduct f := roundedProduct_mono (Nat.zero_le f) hf

theorem roundedProduct_le {f : Nat} (hf : f < 2 ^ 23) : roundedProduct f ≤ 31 * 2 ^ 24 :=
  calc roundedProduct f ≤ roundedProduct (2 ^ 23 - 1) := roundedProduct_mono (by omega) (by omega)
    _ ≤ 31 * 2 ^ 24 := by decide +kernel

/-- The level of the pattern n below 1.0: exponent n / 2^23 and fraction n mod 2^23 (R105). -/
def levelBelowOne (n : Nat) : Nat :=
  roundedProduct (n % 2 ^ 23) / 2 ^ (150 - n / 2 ^ 23)

theorem levelBelowOne_le {n : Nat} (hn : n < 0x3F800000) : levelBelowOne n ≤ 31 := by
  have hprod := roundedProduct_le (f := n % 2 ^ 23) (by omega)
  calc levelBelowOne n ≤ roundedProduct (n % 2 ^ 23) / 2 ^ 24 :=
        Nat.div_le_div_left (Nat.pow_le_pow_right (by decide) (by omega)) (by decide)
    _ ≤ 31 := by omega

/-- Within one exponent the product grows with the fraction; from one exponent to the next it at least
reaches twice its least value. -/
theorem levelBelowOne_mono {m n : Nat} (hmn : m ≤ n) (hn : n < 0x3F800000) :
    levelBelowOne m ≤ levelBelowOne n := by
  rcases (Nat.div_le_div_right hmn : m / 2 ^ 23 ≤ n / 2 ^ 23).eq_or_lt with hexp | hexp
  · rw [levelBelowOne, levelBelowOne, hexp]
    exact Nat.div_le_div_right (roundedProduct_mono (by omega) (by omega))
  · calc levelBelowOne m ≤ 31 * 2 ^ 24 / 2 ^ (150 - m / 2 ^ 23) :=
          Nat.div_le_div_right (roundedProduct_le (by omega))
      _ = 31 * 2 ^ 23 / 2 ^ (149 - m / 2 ^ 23) := by
          rw [show 150 - m / 2 ^ 23 = (149 - m / 2 ^ 23) + 1 by omega, Nat.pow_succ 2 (149 - _)]
          exact Nat.mul_div_mul_right (31 * 2 ^ 23) _ (by decide : 0 < 2)
      _ ≤ levelBelowOne n :=
          Nat.div_le_div (le_roundedProduct (by omega))
            (Nat.pow_le_pow_right (by decide) (by omega)) (Nat.two_pow_pos _).ne'

theorem levelBelowOne_of_exponent_zero {n : Nat} (h : n < 2 ^ 23) : levelBelowOne n = 0 := by
  rw [levelBelowOne, Nat.div_eq_of_lt h]
  exact Nat.div_eq_of_lt ((roundedProduct_le (by omega)).trans_lt (by decide))

/-- Level on the exponent and the fraction as numbers (R105). A pattern of exponent 0 needs no case of its own
below 1.0: its product is too small for its exponent. -/
theorem level_eq (x : Word) :
    level x =
      if x.toNat / 2 ^ 23 % 256 = 0xFF ∧ x.toNat % 2 ^ 23 ≠ 0 then 0
      else if 2 ^ 31 ≤ x.toNat then 0
      else if 127 ≤ x.toNat / 2 ^ 23 then 31
      else BitVec.ofNat 5 (levelBelowOne x.toNat) := by
  have hexp : (x.extractLsb' 23 8).toNat = x.toNat / 2 ^ 23 % 256 := by
    simp [BitVec.extractLsb'_toNat, Nat.shiftRight_eq_div_pow]
  have hfrac : (x.extractLsb' 0 23).toNat = x.toNat % 2 ^ 23 := by simp [BitVec.extractLsb'_toNat]
  have hsign : x.getLsbD 31 = decide (2 ^ 31 ≤ x.toNat) := x.msb_eq_decide
  have hx := x.isLt
  rw [level, hexp, hfrac, hsign]
  by_cases hnan : x.toNat / 2 ^ 23 % 256 = 0xFF ∧ x.toNat % 2 ^ 23 ≠ 0
  · rw [if_pos hnan, if_pos hnan]
  rw [if_neg hnan, if_neg hnan]
  by_cases hneg : 2 ^ 31 ≤ x.toNat
  · rw [if_pos (decide_eq_true hneg), if_pos hneg]
  rw [if_neg fun h => hneg (of_decide_eq_true h), if_neg hneg, Nat.mod_eq_of_lt (by omega)]
  by_cases hone : 127 ≤ x.toNat / 2 ^ 23
  · rw [if_pos hone, if_pos hone, ite_self]
  rw [if_neg (by omega), if_neg hone, if_neg hone]
  by_cases hzero : x.toNat / 2 ^ 23 = 0
  · rw [if_pos hzero, levelBelowOne_of_exponent_zero (by omega)]
    rfl
  · rw [if_neg hzero, levelBelowOne, Nat.shiftRight_eq_div_pow]
    rfl

theorem level_of_nan {x : Word} (h : 0x7F800000 < x.toNat % 2 ^ 31) : level x = 0 := by
  rw [level_eq, if_pos (by omega)]

theorem level_of_negative {x : Word} (h : 2 ^ 31 ≤ x.toNat) : level x = 0 := by
  rw [level_eq, if_pos h, ite_self]

theorem level_of_one_le {x : Word} (hone : 0x3F800000 ≤ x.toNat) (hinf : x.toNat ≤ 0x7F800000) :
    level x = 31 := by
  rw [level_eq, if_neg (by omega), if_neg (by omega), if_pos (by omega)]

theorem level_toNat_of_lt_one {x : Word} (h : x.toNat < 0x3F800000) :
    (level x).toNat = levelBelowOne x.toNat := by
  rw [level_eq, if_neg (by omega), if_neg (by omega), if_neg (by omega)]
  exact Nat.mod_eq_of_lt (Nat.lt_succ_of_le (levelBelowOne_le h))

theorem level_mono {x y : Word} (hxy : x ≤ y) (hy : y ≤ 0x7F800000#32) : level x ≤ level y := by
  change x.toNat ≤ y.toNat at hxy
  change y.toNat ≤ 0x7F800000 at hy
  rcases Nat.lt_or_ge y.toNat 0x3F800000 with hone | hone
  · change (level x).toNat ≤ (level y).toNat
    rw [level_toNat_of_lt_one hone, level_toNat_of_lt_one (hxy.trans_lt hone)]
    exact levelBelowOne_mono hxy hone
  · rw [level_of_one_le hone hy]
    exact Nat.le_of_lt_succ (level x).isLt

/-- Each threshold is a pattern from +0.0 to +inf, its level is k + 1, and one pattern below it the level is
still lower (95_test_vectors.md section 2.2). -/
theorem levelThresholds_exact (k : Fin 31) :
    0#32 < levelThresholds[k] ∧ levelThresholds[k] ≤ 0x7F800000#32 ∧
      (level levelThresholds[k]).toNat = k.val + 1 ∧ (level (levelThresholds[k] - 1)).toNat < k.val + 1 := by
  revert k
  decide +kernel

/-- Settles O18: the level is monotone, so the two patterns at each threshold decide every other one. -/
theorem levelIsMonotone : Obligations.LevelIsMonotone := by
  unfold Obligations.LevelIsMonotone
  refine ⟨fun x y => level_mono, fun k x hx => ?_⟩
  obtain ⟨hpos, hinf, hat, hbelow⟩ := levelThresholds_exact k
  constructor
  · intro hlevel
    by_contra hlt
    have hle : x ≤ levelThresholds[k] - 1 := by bv_omega
    have hmono : (level x).toNat ≤ (level (levelThresholds[k] - 1)).toNat :=
      level_mono hle (by bv_omega)
    omega
  · intro hle
    rw [← hat]
    exact level_mono hle hx

/-! ## LED_SET_BRIGHTNESS -/

theorem ledSetBrightnessRule_eq (s : State) :
    ledSetBrightnessRule s =
      { s with brightLevel := level s.regs.data0 }.withRegs { s.regs with result := .ok } := rfl

/-- Settles O17: the corner cases are the branches of Level, and the operation is its own rule. -/
theorem ledSetBrightnessWritesLevel : Obligations.LedSetBrightnessWritesLevel := by
  unfold Obligations.LedSetBrightnessWritesLevel
  refine ⟨rfl, rfl, fun x h => ?nan, fun x h => ?negative, fun x hlo hhi => level_of_one_le hlo hhi,
    fun x h => ?subnormal, by decide +kernel, by decide +kernel, fun s hacc => ?rule⟩
  case nan =>
    refine level_of_nan ?_
    simpa [BitVec.lt_def] using h
  case negative =>
    exact level_of_negative (of_decide_eq_true (x.msb_eq_decide.symm.trans h))
  case subnormal =>
    have hsmall : x.toNat ≤ 0x007FFFFF := h
    apply BitVec.eq_of_toNat_eq
    rw [level_toNat_of_lt_one (by omega), levelBelowOne_of_exponent_zero (by omega)]
    rfl
  case rule =>
    rw [exec_of_accepts hacc]
    exact congrArg _ (ledSetBrightnessRule_eq s)

/-! ## The frame -/

@[simp] theorem indices_length : indices.length = 16 := rfl

theorem indices_getElem (j : Fin 16) : indices[j.val]'j.isLt = j := by
  revert j
  decide

@[simp] theorem State.ledWord_length (s : State) (j : Fin 16) : (s.ledWord j).length = 4 := rfl

/-- Chunk j of a list made of chunks of one length. -/
theorem take_drop_flatMap {α β : Type} {f : α → List β} {n : Nat} (hf : ∀ a, (f a).length = n) (l : List α)
    (j : Nat) (hj : j < l.length) : ((l.flatMap f).drop (n * j)).take n = f l[j] := by
  induction l generalizing j with
  | nil => exact absurd hj (by simp)
  | cons a l ih =>
    rw [List.flatMap_cons]
    cases j with
    | zero => simpa using List.take_left' (hf a)
    | succ j =>
      rw [Nat.mul_succ, Nat.add_comm, ← List.drop_drop, List.drop_left' (hf a)]
      exact ih j (by simpa using hj)

/-- The brightness byte is the marker plus the level (R101). -/
theorem State.brightByte_eq (s : State) : s.brightByte = BitVec.ofNat 8 (0xE0 + s.brightLevel.toNat) := by
  have hbyte : ∀ b : BitVec 5, (0xE0 : Byte) ||| b.setWidth 8 = BitVec.ofNat 8 (0xE0 + b.toNat) := by
    decide
  exact hbyte s.brightLevel

/-- A colour is Red, Green and Blue from the top (R31). -/
theorem color_eq_append (c : Color) :
    c.extractLsb' 16 8 ++ c.extractLsb' 8 8 ++ c.extractLsb' 0 8 = c := by
  rw [BitVec.extractLsb'_append_extractLsb'_eq_extractLsb' (by rfl),
    BitVec.extractLsb'_append_extractLsb'_eq_extractLsb' (by rfl)]
  exact BitVec.extractLsb'_eq_self

theorem State.ledBody_length (s : State) : (indices.flatMap s.ledWord).length = 64 := by
  simp [List.length_flatMap]

/-- Position j of the chain is at byte 4 + 4 j of the frame (R100). -/
theorem State.ledFrame_chunk (s : State) (j : Fin 16) :
    (s.ledFrame.drop (4 + 4 * j.val)).take 4 = s.ledWord j := by
  have hbody := s.ledBody_length
  have hj := j.isLt
  rw [State.ledFrame, ← List.drop_drop, List.append_assoc, List.drop_left' (by rfl),
    List.drop_append_of_le_length (by omega), List.take_append_of_le_length (by simp [hbody]; omega),
    take_drop_flatMap s.ledWord_length indices j.val hj, indices_getElem]

/-- Settles O19: the frame's ends are written out, and its chunks are the words of the chain positions. -/
theorem ledFrameLayout : Obligations.LedFrameLayout := by
  unfold Obligations.LedFrameLayout
  intro s
  have hbody := s.ledBody_length
  refine ⟨?length, ?start, ?finish, fun j => ?chain⟩
  case length => simp [State.ledFrame, hbody]
  case start => rfl
  case finish =>
    exact List.drop_left' (by simp [hbody])
  case chain =>
    refine ⟨_, _, _, ?_, color_eq_append (s.ledColor s.cfg.chainMap[j])⟩
    rw [s.ledFrame_chunk j, ← s.brightByte_eq]
    rfl

end Sys2Proof.Machine
end

section
/-!
PROOFS. The four ways a SCAN ends, each as one next state (42_scanner.md R111 to R115).
-/

namespace Sys2Proof.Machine

/-! ## The SCANs that read no keys -/

theorem scanRule_of_not_init {s : State} (h : s.clkEn = false) :
    scanRule s = s.withRegs { s.regs with result := .errNotInit } := by
  rw [scanRule, h]
  rfl

/-- The first cause of a block that is not fatal is the one raised (R183). -/
theorem State.raiseFatal_of_not_fatal {s : State} (h : s.fatal = false) (c : BitVec 8) :
    s.raiseFatal c =
      { s with fatal := true, fatalCause := c }.withRegs { s.regs with result := .errFatal } := by
  rw [State.raiseFatal, h]
  rfl

@[simp] theorem State.regs_busAsked (s : State) : s.busAsked.regs = s.regs := by
  rw [State.regs, State.regs, State.busAsked_issuing_port, State.busAsked_issuing]

/-- The state after the LED transaction of a SCAN: BUSOK is asked once, and the outcome is logged
(R102, R113). -/
theorem State.clearEvents_sendLed (s : State) (frame : List Byte) :
    s.clearEvents.sendLed frame =
      { s.busAsked with
        evtCount := 0
        ledLog := s.ledLog ++ [if s.busAnswer then .complete frame else .aborted] } := by
  rw [State.sendLed, State.clearEvents_busAnswer, State.clearEvents_busAsked, State.logLed,
    State.clearEvents_ledLog, State.busAsked_ledLog]
  rfl

/-- The state a SCAN reads the keypad in, once its frame is sent (R113). -/
theorem State.atKeypadRead_eq_logLed {s : State} (hled : s.busAnswer = true) :
    s.atKeypadRead = s.busAsked.busAsked.clearEvents.logLed (.complete s.ledFrame) := by
  rw [State.atKeypadRead, State.sendLed, State.logLed_busAsked, State.clearEvents_busAsked,
    State.clearEvents_busAsked, State.clearEvents_busAnswer, if_pos hled]

theorem State.atKeypadRead_eq {s : State} (hled : s.busAnswer = true) :
    s.atKeypadRead =
      { s.busAsked.busAsked with
        evtCount := 0
        ledLog := s.ledLog ++ [.complete s.ledFrame] } := by
  rw [State.atKeypadRead_eq_logLed hled, State.logLed, State.clearEvents_ledLog, State.busAsked_ledLog,
    State.busAsked_ledLog]
  rfl

@[simp] theorem State.atKeypadRead_fatal (s : State) : s.atKeypadRead.fatal = s.fatal := by
  simp [State.atKeypadRead, State.sendLed]

@[simp] theorem State.atKeypadRead_keyDown (s : State) (i : Fin 16) :
    s.atKeypadRead.keyDown i = s.keyDown i := by
  rw [State.keyDown, State.keyDown, State.atKeypadRead_kpLines]

@[simp] theorem State.regs_atKeypadRead (s : State) : s.atKeypadRead.regs = s.regs := by
  rw [State.atKeypadRead, State.regs_busAsked, State.clearEvents_sendLed]
  exact s.regs_busAsked

theorem scanRule_of_led_failure {s : State} (hinit : s.clkEn = true) (hled : s.busAnswer = false) :
    scanRule s = (s.clearEvents.sendLed s.ledFrame).raiseFatal causeLedBus := by
  simp [scanRule, hinit, hled]

theorem scanRule_of_keypad_failure {s : State} (hinit : s.clkEn = true) (hled : s.busAnswer = true)
    (hkeypad : s.busAsked.busAnswer = false) :
    scanRule s = s.atKeypadRead.raiseFatal causeKeypadBus := by
  simp [scanRule, hinit, hled, hkeypad, State.sendLed, State.clearEvents_busAsked, State.atKeypadRead]

/-- Settles O20: each early end of SCAN's rule is one write of the port at the state its bus transactions
left. -/
theorem scanStopsOnFailures : Obligations.ScanStopsOnFailures := by
  unfold Obligations.ScanStopsOnFailures
  intro s hacc
  obtain ⟨hrun, -, -⟩ := (s.accepts_iff .scan).mp hacc
  have hfatal : s.fatal = false := by simpa [Instr.runsWhenFatal] using hrun
  rw [exec_of_accepts hacc]
  refine ⟨fun hoff => congrArg _ (scanRule_of_not_init hoff), fun hon hled => congrArg _ ?led,
    fun hon hled hkeypad => congrArg _ ?keypad⟩
  case led =>
    rw [ruleOf, scanRule_of_led_failure hon hled, s.clearEvents_sendLed, hled,
      State.raiseFatal_of_not_fatal (by simpa using hfatal), ← s.regs_busAsked]
    rfl
  case keypad =>
    rw [ruleOf, scanRule_of_keypad_failure hon hled hkeypad,
      State.raiseFatal_of_not_fatal (s.atKeypadRead_fatal.trans hfatal),
      State.regs_atKeypadRead, State.atKeypadRead_eq hled]
    rfl

/-! ## The SCAN that completes -/

/-- s with the fields the per-key state machine writes taken from t: the key array and the event list. -/
def State.withScanner (s t : State) : State :=
  { s with keys := t.keys, evtCount := t.evtCount, evt := t.evt }

@[simp] theorem State.withScanner_self (s : State) : s.withScanner s = s := rfl

theorem State.regs_withScanner (s t : State) : (s.withScanner t).regs = s.regs := rfl

theorem State.emitOpt_withScanner (s t : State) (i : Fin 16) (kind : Option EventKind) :
    (s.emitOpt i kind).withScanner t = s.withScanner t := by
  cases kind <;> rfl

theorem State.scanKey_withScanner (s t : State) (down : BitVec 16) (now : BitVec 64) (i : Fin 16) :
    (s.scanKey down now i).withScanner t = s.withScanner t :=
  (s.setKey i (s.keyOut down now i).1).emitOpt_withScanner t i (s.keyOut down now i).2

theorem State.scanKeys_withScanner (s t : State) (down : BitVec 16) (now : BitVec 64) :
    (s.scanKeys down now).withScanner t = s.withScanner t :=
  State.foldl_keeps (·.withScanner t) _ (fun u i => u.scanKey_withScanner t down now i) indices s

/-- The loop over the keys changes the key array and the event list alone (R113, R114). -/
theorem State.scanKeys_eq_withScanner (s : State) (down : BitVec 16) (now : BitVec 64) :
    s.scanKeys down now = s.withScanner (s.scanKeys down now) :=
  calc s.scanKeys down now = (s.scanKeys down now).withScanner (s.scanKeys down now) :=
        (State.withScanner_self _).symm
    _ = s.withScanner (s.scanKeys down now) := s.scanKeys_withScanner _ down now

@[simp] theorem State.regs_scanKeys (s : State) (down : BitVec 16) (now : BitVec 64) :
    (s.scanKeys down now).regs = s.regs := by
  rw [State.scanKeys_eq_withScanner, State.regs_withScanner]

theorem State.scanRead_evt (s : State) :
    s.scanRead.evt = (s.scanKeys (pressedMask s.keypadBytes.1 s.keypadBytes.2) s.clk).evt := by
  rw [State.scanRead, State.setResult_evt, State.setResp0_evt]

theorem State.setResp0_setResult (s : State) (v : Word) (c : Result) :
    (s.setResp0 v).setResult c = s.withRegs { s.regs with resp0 := v, result := c } := by
  rw [State.setResult_eq_withRegs, State.setResp0_eq_withRegs, State.regs_withRegs,
    State.withRegs_withRegs]

/-- What a successful keypad read answers: the number of events, and OK (R113). -/
theorem State.scanRead_eq_withRegs (s : State) :
    s.scanRead = (s.scanKeys (pressedMask s.keypadBytes.1 s.keypadBytes.2) s.clk).withRegs
      { s.regs with resp0 := BitVec.ofNat 32 s.scanRead.evtCount, result := .ok } := by
  rw [State.scanRead_evtCount, ← State.regs_scanKeys, ← State.setResp0_setResult, State.scanRead]

/-- What a successful keypad read changes: the key array, the event list, RESP0 and RESULT (R113). -/
theorem State.scanRead_eq_withScanner (s : State) :
    s.scanRead = (s.withScanner s.scanRead).withRegs
      { s.regs with resp0 := BitVec.ofNat 32 s.scanRead.evtCount, result := .ok } := by
  have hscanner : s.scanKeys (pressedMask s.keypadBytes.1 s.keypadBytes.2) s.clk =
      s.withScanner s.scanRead := by
    rw [State.scanKeys_eq_withScanner, State.withScanner, State.withScanner, State.scanRead_keys,
      State.scanRead_evtCount, State.scanRead_evt]
  rw [← hscanner]
  exact s.scanRead_eq_withRegs

/-- A SCAN whose two transactions succeed evaluates its keypad read (R113). -/
theorem scanRule_of_success {s : State} (hinit : s.clkEn = true) (hled : s.busAnswer = true)
    (hkeypad : s.busAsked.busAnswer = true) : scanRule s = s.atKeypadRead.scanRead := by
  rw [scanRule_complete hinit hled hkeypad, State.atKeypadRead_eq_logLed hled]

/-- Settles O21: the state is the one after a successful keypad read, and the loop over the keys says what
each key and the event list become. -/
theorem scanCompletes : Obligations.ScanCompletes := by
  unfold Obligations.ScanCompletes
  refine ⟨rfl, rfl, fun s hacc hinit hled hkeypad => ?_⟩
  obtain ⟨hkeys, hcount, -, hbound⟩ := s.atKeypadRead.scanKeys_spec
    (pressedMask s.atKeypadRead.keypadBytes.1 s.atKeypadRead.keypadBytes.2) s.atKeypadRead.clk
    s.atKeypadRead_evtCount
  refine ⟨s.atKeypadRead.scanRead, ?exec, ?state, ?bound, ?events, ?length, fun i => ?key⟩
  case exec =>
    rw [exec_of_accepts hacc]
    exact congrArg _ (scanRule_of_success hinit hled hkeypad)
  case state =>
    refine s.atKeypadRead.scanRead_eq_withScanner.trans ?_
    rw [State.regs_atKeypadRead, State.atKeypadRead_eq hled]
    rfl
  case bound =>
    rw [State.scanRead_evtCount]
    exact hbound
  case events =>
    rw [State.scanRead_events s.atKeypadRead_evtCount, State.eventWords]
    simp only [State.keyOut_scan, State.atKeypadRead_keyEvent]
  case length =>
    rw [State.scanRead_events s.atKeypadRead_evtCount, State.scanRead_evtCount, hcount]
  case key =>
    rw [State.scanRead_keys, hkeys i, State.keyOut_scan, State.atKeypadRead_keyEvent,
      State.atKeypadRead_keys, State.atKeypadRead_clk, State.atKeypadRead_keyDown]

end Sys2Proof.Machine
end

section
/-!
PROOFS. The events of two scans in a row, and the operations that read the event list and the keys and write
the keys' colours (42_scanner.md R116 to R121, R124).
-/

namespace Sys2Proof.Machine

/-! ## The events between two scans -/

theorem State.keyEvent_eq_pressed_iff (s : State) (i : Fin 16) :
    s.keyEvent i = some .pressed ↔ s.keys[i].pressed = false ∧ s.keyDown i = true := by
  unfold State.keyEvent
  cases s.keyDown i <;> cases s.keys[i].pressed <;> simp

theorem State.keyEvent_eq_released_iff (s : State) (i : Fin 16) :
    s.keyEvent i = some .released ↔ s.keys[i].pressed = true ∧ s.keyDown i = false := by
  unfold State.keyEvent
  cases s.keyDown i <;> cases s.keys[i].pressed <;> simp

/-- A completed scan lists exactly the events of R114. -/
theorem eventWord_mem_events_iff_of_exec_scan_ok {s t : State} (hacc : s.accepts .scan = true)
    (h : exec .scan s = .next t) (hok : t.p0.result = .ok) (i : Fin 16) (kind : EventKind) :
    eventWord i kind ∈ t.events ↔ s.keyEvent i = some kind := by
  obtain rfl := eq_scanRead_of_exec_scan_ok hacc h hok
  rw [State.eventWord_mem_scanRead_events_iff s.atKeypadRead_evtCount, State.atKeypadRead_keyEvent]

/-- A completed scan leaves each key pressed exactly if it was down (R114). -/
theorem pressed_of_exec_scan_ok {s t : State} (hacc : s.accepts .scan = true)
    (h : exec .scan s = .next t) (hok : t.p0.result = .ok) (i : Fin 16) :
    t.keys[i].pressed = s.keyDown i := by
  obtain rfl := eq_scanRead_of_exec_scan_ok hacc h hok
  obtain ⟨hkeys, -⟩ := s.atKeypadRead.scanKeys_spec
    (pressedMask s.atKeypadRead.keypadBytes.1 s.atKeypadRead.keypadBytes.2) s.atKeypadRead.clk
    s.atKeypadRead_evtCount
  rw [State.scanRead_keys, hkeys i, State.keyOut_scan, State.atKeypadRead_keyDown]

/-- Settles O22: the pressed bit that the second scan finds is the key's state at the first, so the event
that it lists says how the two compare. -/
theorem eventsFollowTransitions : Obligations.EventsFollowTransitions := by
  unfold Obligations.EventsFollowTransitions
  intro s t u v i hacc hexec hok hacc' hexec' hok' hunchanged
  have hlisted := eventWord_mem_events_iff_of_exec_scan_ok hacc' hexec' hok' i
  have hbefore : u.keys[i].pressed = s.keyDown i :=
    hunchanged.trans (pressed_of_exec_scan_ok hacc hexec hok i)
  have hpressed := u.keyEvent_eq_pressed_iff i
  have hreleased := u.keyEvent_eq_released_iff i
  have hheld := u.keyEvent_eq_held_iff i
  rw [← hlisted, hbefore] at hpressed hreleased hheld
  refine ⟨hpressed, hreleased, fun hup hup' kind hmem => ?steadyUp,
    fun hdown hdown' kind hmem => ?steadyDown⟩
  case steadyUp =>
    cases kind with
    | pressed => simp [hpressed, hup'] at hmem
    | held => simp [hheld, hup'] at hmem
    | released => simp [hreleased, hup] at hmem
  case steadyDown =>
    cases kind with
    | pressed => simp [hpressed, hdown] at hmem
    | held => rfl
    | released => simp [hreleased, hdown'] at hmem

/-! ## Command words with an index in bits 3:0 -/

theorem append_idxBits (hi : BitVec 28) (i : Fin 16) :
    hi ++ idxBits i = hi ++ 0#4 ||| BitVec.ofNat 32 i.val := by
  have hidx : BitVec.ofNat 32 i.val = 0#28 ++ idxBits i := by
    revert i
    decide
  rw [hidx, BitVec.or_append, BitVec.or_zero, BitVec.zero_or]

/-! ## The issuing port of a P0 operation -/

theorem State.regs_of_accepts_p0 {s : State} {i : Instr} (hports : Instr.ports i = [.p0])
    (hacc : s.accepts i = true) : s.regs = s.p0 := by
  obtain ⟨-, -, hport⟩ := (s.accepts_iff i).mp hacc
  rw [hports, List.mem_singleton] at hport
  rw [State.regs, hport]
  rfl

/-! ## EVT_READ -/

theorem evtReadRule_of_past_list {j : Fin 16} {s : State} (h : s.evtCount ≤ j.val) :
    evtReadRule j s = s.withRegs { s.regs with resp0 := 0, result := .errRange } := by
  rw [evtReadRule, if_pos h, State.setResp0_setResult]

theorem evtReadRule_of_listed {j : Fin 16} {s : State} (h : j.val < s.evtCount) :
    evtReadRule j s = s.withRegs { s.regs with resp0 := s.evt[j], result := .ok } := by
  rw [evtReadRule, if_neg (Nat.not_le.mpr h), State.setResp0_setResult]

/-- Settles O24: the two clauses are the two branches of the rule. -/
theorem evtReadReturnsTheSlot : Obligations.EvtReadReturnsTheSlot := by
  unfold Obligations.EvtReadReturnsTheSlot
  refine ⟨append_idxBits 0x1100000, fun _ => rfl, fun j s hacc => ?_⟩
  rw [exec_of_accepts hacc]
  exact ⟨fun hpast => congrArg _ (evtReadRule_of_past_list hpast),
    fun hlisted => congrArg _ (evtReadRule_of_listed hlisted)⟩

/-! ## KEY_READ -/

/-- The flag word as a number: pressed is worth 1, held 2 (R117). -/
theorem Key.flagWord_eq (k : Key) :
    k.flagWord = BitVec.ofNat 32 (k.pressed.toNat + 2 * k.held.toNat) := by
  unfold Key.flagWord
  cases k.pressed <;> cases k.held <;> rfl

theorem State.setResp2_eq_withRegs (s : State) (v : Word) :
    s.setResp2 v = s.withRegs { s.regs with resp2 := v } := rfl

theorem keyReadRule_eq (i : Fin 16) (s : State) :
    keyReadRule i s = s.withRegs { s.regs with
      resp0 := BitVec.ofNat 32 (s.keys[i].pressed.toNat + 2 * s.keys[i].held.toNat)
      resp1 := s.keys[i].lastPress.extractLsb' 0 32
      resp2 := s.keys[i].lastPress.extractLsb' 32 32
      result := .ok } := by
  rw [← Key.flagWord_eq]
  simp only [keyReadRule, State.setResult_eq_withRegs, State.setResp0_eq_withRegs,
    State.setResp1_eq_withRegs, State.setResp2_eq_withRegs, State.regs_withRegs, State.withRegs_withRegs]

/-- Settles O25: RESP1 and RESP2 are bits 31:0 and 63:32 of last_press. -/
theorem keyReadReturnsTheKey : Obligations.KeyReadReturnsTheKey := by
  unfold Obligations.KeyReadReturnsTheKey
  refine ⟨append_idxBits 0x1200000, fun _ => rfl, fun i s hacc => ?_⟩
  refine ⟨_, _, BitVec.extractLsb'_append_extractLsb', ?_⟩
  rw [exec_of_accepts hacc]
  exact congrArg _ (keyReadRule_eq i s)

/-! ## KEY_COLOR_READ -/

/-- A colour in a word lies under eight zero bits (R118). -/
theorem setWidth_color (c : Color) : c.setWidth 32 = 0#8 ++ c :=
  BitVec.setWidth_eq_append (by decide)

theorem keyColorReadRule_eq (i : Fin 16) (s : State) :
    keyColorReadRule i s = s.withRegs { s.regs with
      resp0 := 0#8 ++ s.keys[i].defColor
      resp1 := 0#8 ++ s.keys[i].actColor
      result := .ok } := by
  simp only [keyColorReadRule, setWidth_color, State.setResult_eq_withRegs, State.setResp0_eq_withRegs,
    State.setResp1_eq_withRegs, State.regs_withRegs, State.withRegs_withRegs]

/-- Settles O26: the rule writes the two colours, each widened to a word. -/
theorem keyColorReadReturnsColors : Obligations.KeyColorReadReturnsColors := by
  unfold Obligations.KeyColorReadReturnsColors
  refine ⟨append_idxBits 0x1300000, fun _ => rfl, fun i s hacc => ?_⟩
  rw [exec_of_accepts hacc]
  exact congrArg _ (keyColorReadRule_eq i s)

/-! ## The operations that write colours -/

theorem colorOperand_toNat (w : Word) : (colorOperand w).toNat = w.toNat % 2 ^ 24 := by
  simp [colorOperand, BitVec.extractLsb'_toNat]

theorem keySetColorRule_eq (sel : ColorSel) (i : Fin 16) (s : State) :
    keySetColorRule sel i s =
      { s with keys := s.keys.set i.val (s.keys[i].setColor sel (colorOperand s.regs.data0)) }.withRegs
        { s.regs with result := .ok } := rfl

theorem exec_keySetColor {s : State} {sel : ColorSel} {i : Fin 16}
    (hacc : s.accepts (.keySetColor sel i) = true) :
    exec (.keySetColor sel i) s =
      .next ({ s with keys := s.keys.set i.val (s.keys[i].setColor sel (colorOperand s.regs.data0)) }.withRegs
        { s.regs with result := .ok }) :=
  (exec_of_accepts hacc).trans (congrArg _ (keySetColorRule_eq sel i s))

/-- Settles O27: the colour is DATA0[23:0] of P0, and each selector names one field of the key. -/
theorem keySetColorWritesOneColor : Obligations.KeySetColorWritesOneColor := by
  unfold Obligations.KeySetColorWritesOneColor
  refine ⟨append_idxBits 0x1400000, append_idxBits 0x1400001, fun _ _ => rfl, fun i s hacc => ?_⟩
  have hregs : s.regs = s.p0 := State.regs_of_accepts_p0 rfl (hacc .defColor)
  exact ⟨colorOperand s.regs.data0, hregs ▸ colorOperand_toNat s.regs.data0,
    exec_keySetColor (hacc .defColor), exec_keySetColor (hacc .actColor)⟩

/-- s with the key array `keys`. -/
def State.withKeys (s : State) (keys : Vector Key 16) : State :=
  { s with keys := keys }

@[simp] theorem State.withKeys_self (s : State) : s.withKeys s.keys = s := rfl

theorem State.setKey_withKeys (s : State) (i : Fin 16) (k : Key) (keys : Vector Key 16) :
    (s.setKey i k).withKeys keys = s.withKeys keys := rfl

theorem State.setAllColors_withKeys (s : State) (sel : ColorSel) (c : Color) (keys : Vector Key 16) :
    (s.setAllColors sel c).withKeys keys = s.withKeys keys :=
  State.foldl_keeps (·.withKeys keys) _ (fun t i => t.setKey_withKeys i _ keys) indices s

/-- The broadcast changes the key array alone (R120). -/
theorem State.setAllColors_eq_withKeys (s : State) (sel : ColorSel) (c : Color) :
    s.setAllColors sel c = s.withKeys (s.setAllColors sel c).keys :=
  calc s.setAllColors sel c = (s.setAllColors sel c).withKeys (s.setAllColors sel c).keys :=
        (State.withKeys_self _).symm
    _ = s.withKeys (s.setAllColors sel c).keys := s.setAllColors_withKeys sel c _

theorem State.withKeys_setResult (s : State) (keys : Vector Key 16) (c : Result) :
    (s.withKeys keys).setResult c = (s.withKeys keys).withRegs { s.regs with result := c } := rfl

theorem keyBcastColorRule_eq (sel : ColorSel) (s : State) :
    keyBcastColorRule sel s =
      (s.withKeys (s.setAllColors sel (colorOperand s.regs.data0)).keys).withRegs
        { s.regs with result := .ok } := by
  rw [← State.withKeys_setResult, ← State.setAllColors_eq_withKeys, keyBcastColorRule, State.regs]

theorem exec_keyBcastColor {s : State} {sel : ColorSel} (hacc : s.accepts (.keyBcastColor sel) = true) :
    exec (.keyBcastColor sel) s =
      .next ((s.withKeys (s.setAllColors sel (colorOperand s.regs.data0)).keys).withRegs
        { s.regs with result := .ok }) :=
  (exec_of_accepts hacc).trans (congrArg _ (keyBcastColorRule_eq sel s))

/-- Settles O28: the broadcast is KEY_SET_COLOR's write at every key. -/
theorem keyBcastColorWritesAllKeys : Obligations.KeyBcastColorWritesAllKeys := by
  unfold Obligations.KeyBcastColorWritesAllKeys
  refine ⟨rfl, rfl, fun _ => rfl, fun s hacc => ?_⟩
  have hregs : s.regs = s.p0 := State.regs_of_accepts_p0 rfl (hacc .defColor)
  exact ⟨colorOperand s.regs.data0, (s.setAllColors .defColor _).keys, (s.setAllColors .actColor _).keys,
    hregs ▸ colorOperand_toNat s.regs.data0, exec_keyBcastColor (hacc .defColor),
    exec_keyBcastColor (hacc .actColor),
    fun i => ⟨s.setAllColors_keys .defColor _ i, s.setAllColors_keys .actColor _ i⟩⟩

end Sys2Proof.Machine
end

section
/-!
PROOFS. The queue of 43_queue.md as its three operations and the steps move it: what each operation answers,
the one way a step can move the queue, and what follows for the pointers and for the order of the entries
(R130 to R138, R144).
-/

namespace Sys2Proof.Machine

/-! ## The operations of the queue -/

theorem State.setBuf_eq_withRegs (s : State) (b : Entry) :
    s.setBuf b = s.withRegs { s.regs with buf := b } := rfl

theorem State.producerFull_eq_true_iff (s : State) :
    s.producerFull = true ↔ (s.wptr - s.rsync).toNat = 16 := by
  rw [State.producerFull, State.producerView, beq_iff_eq, ← BitVec.toNat_inj]
  rfl

theorem State.producerFull_eq_false_iff (s : State) :
    s.producerFull = false ↔ (s.wptr - s.rsync).toNat ≠ 16 := by
  rw [← Bool.not_eq_true, State.producerFull_eq_true_iff]

theorem qPushRule_of_not_init {s : State} (h : s.qEn = false) :
    qPushRule s = s.withRegs { s.regs with result := .errNotInit } := by
  rw [qPushRule, h]
  rfl

theorem qPushRule_of_full {s : State} (h : s.qEn = true) (hfull : s.producerFull = true) :
    qPushRule s = s.withRegs { s.regs with result := .ok } := by
  rw [qPushRule, h, hfull]
  rfl

theorem qPushRule_of_room {s : State} (h : s.qEn = true) (hroom : s.producerFull = false) :
    qPushRule s =
      { s with
        qMem := s.qMem.set (slotOf s.wptr).val s.regs.buf
        wptr := s.wptr + 1 }.withRegs { s.regs with result := .ok } := by
  rw [qPushRule, h, hroom]
  rfl

theorem qPopRule_of_empty {s : State} (h : s.rptr = s.wsync) :
    qPopRule s = s.withRegs { s.regs with resp0 := 0, result := .empty } := by
  rw [qPopRule, if_pos h, State.setResp0_setResult]

theorem qPopRule_of_visible {s : State} (h : s.rptr ≠ s.wsync) :
    qPopRule s =
      { s with rptr := s.rptr + 1 }.withRegs { s.regs with
        buf := s.qMem[slotOf s.rptr], resp0 := 1, result := .ok } := by
  rw [qPopRule, if_neg h, State.setResp0_setResult, State.setBuf_eq_withRegs, State.withRegs_withRegs,
    State.regs_withRegs]
  rfl

theorem qLevelRule_of_not_init {s : State} (h : s.qEn = false) :
    qLevelRule s = s.withRegs { s.regs with result := .errNotInit } := by
  rw [qLevelRule, h]
  rfl

theorem qLevelRule_of_init {s : State} (h : s.qEn = true) :
    qLevelRule s = s.withRegs { s.regs with
      resp0 := BitVec.ofNat 32 s.levelSeen.toNat, result := .ok } := by
  rw [BitVec.ofNat_toNat, qLevelRule, h, State.setResp0_setResult]
  rfl

theorem State.levelSeen_of_producer {s : State} (h : s.issuing ≠ .p2) :
    s.levelSeen = s.wptr - s.rsync := by
  unfold State.levelSeen
  split
  · next hp2 => exact absurd hp2 h
  · rfl

theorem State.levelSeen_of_consumer {s : State} (h : s.issuing = .p2) :
    s.levelSeen = s.wsync - s.rptr := by
  rw [State.levelSeen, h]
  rfl

/-- Settles O30: the three clauses are the three branches of the rule. -/
theorem qPushStoresOrDrops : Obligations.QPushStoresOrDrops := by
  unfold Obligations.QPushStoresOrDrops
  refine ⟨rfl, rfl, fun s hacc => ?_⟩
  rw [exec_of_accepts hacc]
  refine ⟨fun hoff => ?notInit, fun hon hfull => ?full, fun hon hroom => ?room⟩
  case notInit => exact congrArg _ (qPushRule_of_not_init hoff)
  case full => exact congrArg _ (qPushRule_of_full hon (s.producerFull_eq_true_iff.mpr hfull))
  case room =>
    simp only [← slotOf_val]
    exact congrArg _ (qPushRule_of_room hon (s.producerFull_eq_false_iff.mpr hroom))

/-- Settles O31: the two clauses are the two branches of the rule. -/
theorem qPopReturnsTheOldest : Obligations.QPopReturnsTheOldest := by
  unfold Obligations.QPopReturnsTheOldest
  refine ⟨rfl, rfl, fun s hacc => ?_⟩
  rw [exec_of_accepts hacc]
  refine ⟨fun hempty => congrArg _ (qPopRule_of_empty hempty), fun hvisible => ?_⟩
  simp only [← slotOf_val]
  exact congrArg _ (qPopRule_of_visible hvisible)

/-- Settles O32: the level is the producer view or the consumer view, by the issuing port. -/
theorem qLevelReturnsTheView : Obligations.QLevelReturnsTheView := by
  unfold Obligations.QLevelReturnsTheView
  refine ⟨rfl, fun p => by cases p <;> decide, fun s hacc => ?_⟩
  rw [exec_of_accepts hacc]
  refine ⟨fun hoff => congrArg _ (qLevelRule_of_not_init hoff), fun hon hport => ?_, fun hon hport => ?_⟩
  · rw [← State.levelSeen_of_producer hport]
    exact congrArg _ (qLevelRule_of_init hon)
  · rw [← State.levelSeen_of_consumer hport]
    exact congrArg _ (qLevelRule_of_init hon)

/-! ## How a step moves the queue -/

/-- The queue as its operations see it: the entries and the four pointers (R35). -/
structure QueueView where
  qMem : Vector Entry 16
  wptr : BitVec 5
  rptr : BitVec 5
  wsync : BitVec 5
  rsync : BitVec 5

/-- The queue of a state. -/
def State.queue (s : State) : QueueView :=
  ⟨s.qMem, s.wptr, s.rptr, s.wsync, s.rsync⟩

/-- The ways a step other than RESET can move the queue from q to q', where op is the operation it issues, ports
are the ports' registers before it and answer is P2's registers after it (R130 to R134). -/
inductive QueueMove (op : Option (Port × Instr)) (ports : Port → PortRegs) (answer : PortRegs)
    (q q' : QueueView) : Prop
  /-- Nothing moves; if P2 issued Q_POP, it did not answer OK. -/
  | stay (hno : op = some (.p2, .qPop) → answer.result ≠ .ok) (h : q' = q)
  /-- A Q_PUSH that is not dropped. -/
  | push (p : Port) (hport : p ∈ Instr.ports .qPush) (hop : op = some (p, .qPush))
      (hroom : (q.wptr - q.rsync).toNat ≠ 16)
      (h : q' = { q with
        qMem := q.qMem.set (slotOf q.wptr).val (ports p).buf
        wptr := q.wptr + 1 })
  /-- A Q_POP that finds an entry. -/
  | pop (hop : op = some (.p2, .qPop)) (hvisible : q.rptr ≠ q.wsync) (hok : answer.result = .ok)
      (hbuf : answer.buf = q.qMem[slotOf q.rptr]) (h : q' = { q with rptr := q.rptr + 1 })
  /-- SYNC W. -/
  | syncW (hop : op = none) (h : q' = { q with wsync := q.wptr })
  /-- SYNC R. -/
  | syncR (hop : op = none) (h : q' = { q with rsync := q.rptr })

@[simp] theorem State.picked_queue (s : State) : s.picked.queue = s.queue := by
  simp [State.queue]

@[simp] theorem State.writeReg_queue (s : State) (p : Port) (r : Reg) (v : Word) :
    (s.writeReg p r v).queue = s.queue := by
  simp [State.queue]

@[simp] theorem State.noteRole_queue (s : State) (c : Port) (w : Option Word) :
    (s.noteRole c w).queue = s.queue := by
  simp [State.queue]

@[simp] theorem dispatchIllegal_queue (s : State) : (dispatchIllegal s).queue = s.queue := by
  simp [State.queue]

/-- No operation but Q_PUSH and Q_POP touches the queue. -/
theorem ruleOf_queue {i : Instr} (s : State) (hpush : i ≠ .qPush) (hpop : i ≠ .qPop) :
    (ruleOf i s).queue = s.queue := by
  simp [State.queue, ruleOf_qMem i s hpush, ruleOf_wptr i s hpush, ruleOf_rptr i s hpop]

theorem qPushRule_queueMove (s : State) (p : Port) (hport : p ∈ Instr.ports .qPush) :
    QueueMove (some (p, .qPush)) s.port (qPushRule (s.onPort p)).p2 s.queue (qPushRule (s.onPort p)).queue := by
  cases hon : s.qEn with
  | false =>
    rw [qPushRule_of_not_init (s := s.onPort p) hon]
    exact .stay nofun rfl
  | true =>
    cases hfull : s.producerFull with
    | true =>
      rw [qPushRule_of_full (s := s.onPort p) hon hfull]
      exact .stay nofun rfl
    | false =>
      rw [qPushRule_of_room (s := s.onPort p) hon hfull]
      refine .push p hport rfl (s.producerFull_eq_false_iff.mp hfull) ?_
      rw [← s.port_onPort p p]
      rfl

theorem qPopRule_queueMove (s : State) :
    QueueMove (some (.p2, .qPop)) s.port (qPopRule (s.onPort .p2)).p2 s.queue
      (qPopRule (s.onPort .p2)).queue := by
  by_cases hempty : s.rptr = s.wsync
  · rw [qPopRule_of_empty (s := s.onPort .p2) hempty]
    exact .stay (fun _ => nofun) rfl
  · rw [qPopRule_of_visible (s := s.onPort .p2) hempty]
    exact .pop rfl hempty rfl rfl rfl

/-- How an issued operation moves the queue: the front end never does (R170). -/
theorem exec_queueMove {i : Instr} {s t : State} {p : Port} (h : exec i (s.onPort p) = .next t) :
    QueueMove (some (p, i)) s.port t.p2 s.queue t.queue := by
  refine exec_cases h (fun t => QueueMove (some (p, i)) s.port t.p2 s.queue t.queue) (fun _ _ => ?fatal)
    (fun _ _ => ?early) (fun _ _ _ => ?illegal) fun hacc => ?rule
  case fatal | early | illegal => exact .stay (fun e => by cases e; exact nofun) rfl
  case rule =>
    obtain ⟨-, -, hport⟩ := ((s.onPort p).accepts_iff i).mp hacc
    cases i with
    | qPush => exact qPushRule_queueMove s p hport
    | qPop =>
      obtain rfl : p = .p2 := List.mem_singleton.mp hport
      exact qPopRule_queueMove s
    | _ => exact .stay nofun (ruleOf_queue _ nofun nofun)

theorem access_queueMove {s t : State} {x : Access} (h : s.access x = .next t) :
    QueueMove (x.operation s.cfg) s.port t.p2 s.queue t.queue := by
  rcases access_cases h with ⟨hop, -, v, rfl⟩ | ⟨hop, -, p, r, v, rfl⟩ | ⟨p, w, i, hop, -, -, -, he⟩ |
    ⟨p, w, why, hop, -, -, -, rfl⟩
  · exact hop ▸ .stay nofun rfl
  · exact hop ▸ .stay nofun (s.writeReg_queue p r v)
  · exact hop ▸ exec_queueMove he
  · exact hop ▸ .stay nofun (dispatchIllegal_queue _)

/-- No step of the environment but RESET moves the queue otherwise than SYNC W and SYNC R do (R134). -/
theorem State.perform_environment_queueMove {u t : State} {a : Act} {ports : Port → PortRegs}
    (h : u.perform a = .next t) (henv : a.isEnvironment = true) (hreset : a ≠ .reset) :
    QueueMove none ports t.p2 u.queue t.queue := by
  cases a with
  | bus x => cases henv
  | context c x => cases henv
  | reset => exact absurd rfl hreset
  | syncW => cases h; exact .syncW rfl rfl
  | syncR => cases h; exact .syncR rfl rfl
  | keypad lines => cases h; exact .stay nofun rfl
  | _ => obtain ⟨-, rfl⟩ := stepIf_next h; exact .stay nofun (by simp [State.queue])

theorem State.issues_eq_none_of_environment {s : State} {a : Act} (h : s.nextAct = some a)
    (henv : a.isEnvironment = true) : s.issues = none := by
  cases a with
  | bus x => cases henv
  | context c x => cases henv
  | _ => simp [State.issues, h]

/-- The one place that says how a step can move the queue: RESET empties it, and every other step is one of the
moves above. -/
theorem step_queueMove {s s' : State} (h : step s = .next s') :
    (∃ u, s' = State.resetBlock u ∧ s.nextAct = some .reset) ∨
      QueueMove s.issues s.port s'.p2 s.queue s'.queue := by
  rcases step_cases h with ⟨hnone, rfl⟩ | ⟨a, hnext, ha⟩
  · exact .inr (.stay (by simp [State.issues, hnone]) s.picked_queue)
  · have hports : s.picked.port = s.port := funext s.picked_port
    cases a with
    | bus x =>
      have hmove := access_queueMove (show s.picked.access x = .next s' from ha)
      rw [State.picked_cfg, State.picked_queue, hports, ← issues_bus hnext] at hmove
      exact .inr hmove
    | context c x =>
      obtain ⟨-, u, hu, rfl⟩ := contextStep_cases ha
      have hmove := access_queueMove hu
      rw [State.picked_cfg, State.picked_queue, hports, ← issues_context hnext] at hmove
      exact .inr (by simpa using hmove)
    | reset => exact .inl ⟨_, State.perform_reset ha, hnext⟩
    | _ =>
      have hmove := State.perform_environment_queueMove (ports := s.port) ha rfl nofun
      rw [State.picked_queue, ← State.issues_eq_none_of_environment hnext rfl] at hmove
      exact .inr hmove

/-! ## The invariant of the queue pointers -/

/-- R136 (a), (b) and (c), of the pointers of a queue. -/
def QueueView.Inv (q : QueueView) : Prop :=
  (q.wptr - q.rptr).toNat ≤ 16 ∧ (q.wsync - q.rptr).toNat ≤ (q.wptr - q.rptr).toNat ∧
    (q.rptr - q.rsync).toNat + (q.wptr - q.rptr).toNat = (q.wptr - q.rsync).toNat ∧
    (q.wptr - q.rsync).toNat ≤ 16

theorem queueInv_iff (s : State) : QueueInv s ↔ s.queue.Inv :=
  ⟨fun ⟨ha, hb, hc, hd⟩ => ⟨ha, hb, hc, hd⟩, fun ⟨ha, hb, hc, hd⟩ => ⟨ha, hb, hc, hd⟩⟩

namespace QueueView.Inv

variable {q : QueueView}

/-- A push with room as the producers see it keeps (a), since they see at least the true occupancy, by (c). -/
theorem push (h : q.Inv) (hroom : (q.wptr - q.rsync).toNat ≠ 16) (m : Vector Entry 16) :
    Inv { q with qMem := m, wptr := q.wptr + 1 } := by
  simp only [Inv, BitVec.toNat_sub, BitVec.toNat_add, BitVec.toNat_ofNat, BitVec.ofNat_eq_ofNat] at *
  omega

/-- A pop of a visible entry keeps (b), since what the consumer sees is queued. -/
theorem pop (h : q.Inv) (hvisible : q.rptr ≠ q.wsync) : Inv { q with rptr := q.rptr + 1 } := by
  have hne : q.rptr.toNat ≠ q.wsync.toNat := fun e => hvisible (BitVec.eq_of_toNat_eq e)
  simp only [Inv, BitVec.toNat_sub, BitVec.toNat_add, BitVec.toNat_ofNat, BitVec.ofNat_eq_ofNat] at *
  omega

theorem syncW (h : q.Inv) : Inv { q with wsync := q.wptr } := by
  obtain ⟨ha, -, hc, hd⟩ := h
  exact ⟨ha, le_rfl, hc, hd⟩

theorem syncR (h : q.Inv) : Inv { q with rsync := q.rptr } := by
  obtain ⟨ha, hb, -, -⟩ := h
  exact ⟨ha, hb, by simp, ha⟩

theorem move {op : Option (Port × Instr)} {ports : Port → PortRegs} {answer : PortRegs} {q' : QueueView}
    (h : q.Inv) (hmove : QueueMove op ports answer q q') : q'.Inv := by
  cases hmove with
  | stay _ hq => exact hq ▸ h
  | push _ _ _ hroom hq => exact hq ▸ h.push hroom _
  | pop _ hvisible _ _ hq => exact hq ▸ h.pop hvisible
  | syncW _ hq => exact hq ▸ h.syncW
  | syncR _ hq => exact hq ▸ h.syncR

end QueueView.Inv

theorem QueueInv.resetBlock (s : State) : QueueInv s.resetBlock := by
  obtain ⟨ha, hb, hc, hd⟩ := QueueInv.reset
  exact ⟨ha, hb, hc, hd⟩

theorem QueueInv.step {s s' : State} (hs : QueueInv s) (h : step s = .next s') : QueueInv s' := by
  rcases step_queueMove h with ⟨u, rfl, -⟩ | hmove
  · exact .resetBlock u
  · exact (queueInv_iff s').mpr (((queueInv_iff s).mp hs).move hmove)

/-- Settles O34: RESET makes the pointers equal, and each other move of the queue keeps the invariant. -/
theorem everyStepKeepsTheQueueInvariant : Obligations.EveryStepKeepsTheQueueInvariant := by
  unfold Obligations.EveryStepKeepsTheQueueInvariant
  intro s s' hs h
  exact hs.step h

/-! ## The writers of the pointers -/

theorem step_queueMove_of_no_reset {s s' : State} (h : step s = .next s') (hreset : s.nextAct ≠ some .reset) :
    QueueMove s.issues s.port s'.p2 s.queue s'.queue :=
  (step_queueMove h).resolve_left fun ⟨_, _, hnext⟩ => hreset hnext

/-- Settles O33: of the moves of the queue only a push writes wptr, and only a pop writes rptr. -/
theorem pointersHaveOneWriter : Obligations.PointersHaveOneWriter := by
  unfold Obligations.PointersHaveOneWriter
  intro s s' h hreset
  cases step_queueMove_of_no_reset h hreset with
  | stay _ hq | syncW _ hq | syncR _ hq =>
    exact ⟨fun hw => absurd (congrArg QueueView.wptr hq) hw, fun hr => absurd (congrArg QueueView.rptr hq) hr⟩
  | push p hport hop _ hq =>
    refine ⟨fun _ => ⟨congrArg QueueView.wptr hq, ?_⟩, fun hr => absurd (congrArg QueueView.rptr hq) hr⟩
    rw [hop]
    simpa [Instr.ports] using hport
  | pop hop _ _ _ hq =>
    exact ⟨fun hw => absurd (congrArg QueueView.wptr hq) hw, fun _ => ⟨congrArg QueueView.rptr hq, hop⟩⟩

/-! ## The order of the entries -/

theorem storedEntries_of_wptr_eq {s s' : State} (h : s'.wptr = s.wptr) : storedEntries s s' = [] := by
  unfold storedEntries
  split
  · exact if_pos h
  · rfl

theorem storedEntries_of_push {s s' : State} {p : Port} (hop : s.issues = some (p, .qPush))
    (h : s'.wptr = s.wptr + 1) : storedEntries s s' = [(s.port p).buf] := by
  have hne : ¬ s'.wptr = s.wptr := by simp [h]
  rw [storedEntries, hop]
  exact if_neg hne

theorem returnedEntries_of_no_answer {s s' : State}
    (h : s.issues = some (.p2, .qPop) → s'.p2.result ≠ .ok) : returnedEntries s s' = [] := by
  unfold returnedEntries
  split
  · next hop => exact if_neg (h hop)
  · rfl

theorem returnedEntries_of_pop {s s' : State} (hop : s.issues = some (.p2, .qPop))
    (hok : s'.p2.result = .ok) : returnedEntries s s' = [s'.p2.buf] := by
  rw [returnedEntries, hop]
  exact if_pos hok

/-- A step that moves neither entries nor the true pointers stores and returns nothing. -/
theorem conserves_entries_of_unmoved {s s' : State} (hno : s.issues = some (.p2, .qPop) → s'.p2.result ≠ .ok)
    (hm : s'.qMem = s.qMem) (hw : s'.wptr = s.wptr) (hr : s'.rptr = s.rptr) :
    returnedEntries s s' ++ s'.contents = s.contents ++ storedEntries s s' := by
  rw [returnedEntries_of_no_answer hno, storedEntries_of_wptr_eq hw, State.contents_congr hm hw hr,
    List.nil_append, List.append_nil]

/-- What is queued, after what a step returns, is what was queued, before what the step stores (R144). -/
theorem step_conserves_entries {s s' : State} (hs : QueueInv s) (h : step s = .next s')
    (hreset : s.nextAct ≠ some .reset) :
    returnedEntries s s' ++ s'.contents = s.contents ++ storedEntries s s' := by
  cases step_queueMove_of_no_reset h hreset with
  | stay hno hq =>
    exact conserves_entries_of_unmoved hno (congrArg QueueView.qMem hq) (congrArg QueueView.wptr hq)
      (congrArg QueueView.rptr hq)
  | syncW hop hq | syncR hop hq =>
    exact conserves_entries_of_unmoved (by simp [hop]) (congrArg QueueView.qMem hq)
      (congrArg QueueView.wptr hq) (congrArg QueueView.rptr hq)
  | push p _ hop hroom hq =>
    have hw : s'.wptr = s.wptr + 1 := congrArg QueueView.wptr hq
    have hcontents : s'.contents = s.contents ++ [(s.port p).buf] :=
      State.contents_push (hs.room (s.producerFull_eq_false_iff.mpr hroom)) (congrArg QueueView.qMem hq) hw
        (congrArg QueueView.rptr hq)
    rw [returnedEntries_of_no_answer (by simp [hop]), storedEntries_of_push hop hw, hcontents, List.nil_append]
  | pop hop hvisible hok hbuf hq =>
    have hw : s'.wptr = s.wptr := congrArg QueueView.wptr hq
    have hcontents : s'.p2.buf :: s'.contents = s.contents :=
      hbuf ▸ State.contents_pop (hs.visible hvisible) (congrArg QueueView.qMem hq) hw
        (congrArg QueueView.rptr hq)
    rw [returnedEntries_of_pop hop hok, storedEntries_of_wptr_eq hw, ← hcontents, List.append_nil,
      List.singleton_append]

theorem RunsFor.queueInv {r : Nat → State} {n : Nat} (h0 : QueueInv (r 0)) (hrun : RunsFor r n) :
    QueueInv (r n) := by
  induction n with
  | zero => exact h0
  | succ n ih => exact (ih fun k hk => hrun k (Nat.lt_succ_of_lt hk)).step (hrun n n.lt_succ_self)

theorem storedUpTo_succ (r : Nat → State) (n : Nat) :
    storedUpTo r (n + 1) = storedUpTo r n ++ storedEntries (r n) (r (n + 1)) := by
  simp [storedUpTo, List.range_succ]

theorem returnedUpTo_succ (r : Nat → State) (n : Nat) :
    returnedUpTo r (n + 1) = returnedUpTo r n ++ returnedEntries (r n) (r (n + 1)) := by
  simp [returnedUpTo, List.range_succ]

theorem RunsFor.conserves_entries {r : Nat → State} {n : Nat} (h0 : QueueInv (r 0)) (hrun : RunsFor r n)
    (hreset : NoReset r n) : returnedUpTo r n ++ (r n).contents = (r 0).contents ++ storedUpTo r n := by
  induction n with
  | zero => simp [returnedUpTo, storedUpTo]
  | succ n ih =>
    have hbefore : RunsFor r n := fun k hk => hrun k (Nat.lt_succ_of_lt hk)
    have hstep := step_conserves_entries (hbefore.queueInv h0) (hrun n n.lt_succ_self) (hreset n n.lt_succ_self)
    rw [returnedUpTo_succ, storedUpTo_succ, List.append_assoc, hstep, ← List.append_assoc,
      ih hbefore fun k hk => hreset k (Nat.lt_succ_of_lt hk), List.append_assoc]

theorem State.contents_length (s : State) : s.contents.length = s.occupancy.toNat := by
  simp [State.contents]

/-- Settles O35: one step conserves the entries in order, and so does a run, by induction on its length. -/
theorem queueIsFirstInFirstOut : Obligations.QueueIsFirstInFirstOut := by
  unfold Obligations.QueueIsFirstInFirstOut
  refine ⟨fun s s' hs h hreset => step_conserves_entries hs h hreset, fun r n h0 hrun hreset => ?_⟩
  have hconserved := hrun.conserves_entries h0 hreset
  refine ⟨hconserved, (r n).contents_length ▸ (hrun.queueInv h0).occupancy_le, fun hempty => ?_⟩
  rw [hempty, List.nil_append] at hconserved
  exact ⟨_, hconserved⟩

end Sys2Proof.Machine
end

section
/-!
PROOFS. The consumer of the queue and what travels through it: the layout of the entries and which of them are
rendered (R139, R140, R142), the drawing of the renderer (R141, R142), and how far its operations reach
(R171, R193).
-/

namespace Sys2Proof.Machine

/-! ## The entries -/

/-- The tags and lengths the consumer renders (R142). -/
theorem consumerAction_eq_render_iff (e : Entry) :
    consumerAction e = .render ↔
      e[0].toNat = 0 ∨ e[0].toNat = 1 ∨ (e[0].toNat = 2 ∧ e[1].toNat ≤ 64) := by
  unfold consumerAction
  split
  next h => simp [h]
  next h => simp [h]
  next h => simp [h]
  next h0 h1 h2 => exact ⟨nofun, by rintro (h | h | ⟨h, -⟩) <;> contradiction⟩

/-- An entry is rendered exactly if it is Clear, Splash or a Panic (R140, R142). -/
theorem consumerAction_eq_render_iff_command (e : Entry) :
    consumerAction e = .render ↔
      commandOfEntry e = some .clear ∨ commandOfEntry e = some .splash ∨
        ∃ m, commandOfEntry e = some (.panic m) := by
  unfold consumerAction commandOfEntry
  dsimp only
  split
  next h => simp [h]
  next h => simp [h]
  next h => by_cases hlen : e[1].toNat ≤ 64 <;> simp [h, hlen]
  next h0 h1 h2 =>
    refine ⟨nofun, fun h => ?_⟩
    split at h <;> simp_all

/-- The bytes of a staged entry by their place; the bytes past the given ones are 0 (R139,
notes/assumptions/17.md). -/
theorem entryOfBytes_getElem (l : List Byte) {k : Nat} (hk : k < 68) :
    (entryOfBytes l)[k] = l.getD k 0 := by
  by_cases hl : k < l.length
  · simp [entryOfBytes, hl]
  · simp [entryOfBytes, List.getElem_append_right (Nat.le_of_not_lt hl), hl, -List.reduceReplicate]

/-- A staged header takes bytes 0 to 3. -/
theorem entryOfBytes_take_header (b0 b1 b2 b3 : Byte) (l : List Byte) :
    (entryOfBytes ([b0, b1, b2, b3] ++ l)).toList.take 4 = [b0, b1, b2, b3] := by
  simp [entryOfBytes, Vector.toList, -List.reduceReplicate]

/-- A staged payload begins at byte 4. -/
theorem entryOfBytes_take_payload (b0 b1 b2 b3 : Byte) (m l : List Byte) (h : m.length ≤ 64) :
    ((entryOfBytes ([b0, b1, b2, b3] ++ (m ++ l))).toList.drop 4).take m.length = m := by
  simp [entryOfBytes, Vector.toList, List.take_take, h, -List.reduceReplicate]

theorem commandOfEntry_of_panic {e : Entry} (htag : e[0] = 2) (hlen : e[1].toNat ≤ 64) :
    commandOfEntry e = some (.panic ((e.toList.drop 4).take e[1].toNat)) := by
  simp [commandOfEntry, htag, hlen]

theorem commandOfEntry_of_home {e : Entry} (htag : e[0] = 3) (hlen : e[1].toNat ≤ 16) :
    commandOfEntry e = some (.home e[2] ((e.toList.drop 4).take e[1].toNat) (e[22] ++ e[21] ++ e[20])) := by
  simp [commandOfEntry, htag, hlen]

/-- LEN holds the length of a text within the layout's limits. -/
theorem length_byte_toNat {m : List Byte} (h : m.length ≤ 64) : (BitVec.ofNat 8 m.length).toNat = m.length := by
  rw [BitVec.toNat_ofNat]
  omega

theorem panic_entry_eq (m : List Byte) :
    (DisplayCommand.panic m).entry = entryOfBytes ([2, BitVec.ofNat 8 m.length, 0, 0] ++ (m ++ [])) := by
  rw [List.append_nil]
  rfl

theorem panic_entry_header (m : List Byte) :
    (DisplayCommand.panic m).entry.toList.take 4 = [2, BitVec.ofNat 8 m.length, 0, 0] := by
  rw [panic_entry_eq]
  exact entryOfBytes_take_header ..

theorem panic_entry_message {m : List Byte} (h : m.length ≤ 64) :
    ((DisplayCommand.panic m).entry.toList.drop 4).take m.length = m := by
  rw [panic_entry_eq]
  exact entryOfBytes_take_payload _ _ _ _ m [] h

theorem commandOfEntry_panic_entry {m : List Byte} (h : m.length ≤ 64) :
    commandOfEntry (DisplayCommand.panic m).entry = some (.panic m) := by
  have htag : (DisplayCommand.panic m).entry[0] = 2 := entryOfBytes_getElem _ (by decide)
  have hlen : (DisplayCommand.panic m).entry[1].toNat = m.length :=
    (congrArg BitVec.toNat (entryOfBytes_getElem _ (by decide))).trans (length_byte_toNat h)
  rw [commandOfEntry_of_panic htag (hlen ▸ h), hlen, panic_entry_message h]

theorem home_entry_tag (id : Byte) (name : List Byte) (c : Color) :
    (DisplayCommand.home id name c).entry[0] = 3 :=
  entryOfBytes_getElem _ (by decide)

section Home

variable (id : Byte) {name : List Byte} (c : Color) (h : name.length ≤ 16)

include h

theorem home_entry_eq :
    (DisplayCommand.home id name c).entry =
      entryOfBytes ([3, BitVec.ofNat 8 name.length, id, 0] ++ (name ++ (List.replicate (16 - name.length) 0 ++
        [c.extractLsb' 0 8, c.extractLsb' 8 8, c.extractLsb' 16 8]))) := by
  simp [DisplayCommand.entry, List.take_append, List.take_of_length_le h, -List.reduceReplicate]

theorem home_entry_header :
    (DisplayCommand.home id name c).entry.toList.take 4 = [3, BitVec.ofNat 8 name.length, id, 0] := by
  rw [home_entry_eq id c h]
  exact entryOfBytes_take_header ..

theorem home_entry_name : ((DisplayCommand.home id name c).entry.toList.drop 4).take name.length = name := by
  rw [home_entry_eq id c h]
  exact entryOfBytes_take_payload _ _ _ _ name _ (h.trans (by decide))

/-- The bytes after a Home's name field: the colour from the bottom, then 0 (R139). -/
theorem home_entry_getElem {k : Nat} (hk : 20 + k < 68) :
    (DisplayCommand.home id name c).entry[20 + k] =
      [c.extractLsb' 0 8, c.extractLsb' 8 8, c.extractLsb' 16 8].getD k 0 := by
  have hbefore :
      ([3, BitVec.ofNat 8 name.length, id, 0] ++ (name ++ List.replicate (16 - name.length) 0)).length = 20 := by
    simp only [List.length_append, List.length_cons, List.length_nil, List.length_replicate]
    omega
  simp only [home_entry_eq id c h, entryOfBytes_getElem _ hk]
  rw [← List.append_assoc name, ← List.append_assoc, List.getD_append_right _ _ _ _ (by omega), hbefore,
    Nat.add_sub_cancel_left]

theorem home_entry_color :
    (DisplayCommand.home id name c).entry[22] ++ (DisplayCommand.home id name c).entry[21] ++
      (DisplayCommand.home id name c).entry[20] = c := by
  rw [home_entry_getElem id c h (k := 2) (by decide), home_entry_getElem id c h (k := 1) (by decide),
    home_entry_getElem id c h (k := 0) (by decide)]
  exact color_eq_append c

theorem commandOfEntry_home_entry :
    commandOfEntry (DisplayCommand.home id name c).entry = some (.home id name c) := by
  have hlen : (DisplayCommand.home id name c).entry[1].toNat = name.length :=
    (congrArg BitVec.toNat (entryOfBytes_getElem _ (by decide))).trans
      (length_byte_toNat (h.trans (by decide)))
  have hid : (DisplayCommand.home id name c).entry[2] = id := entryOfBytes_getElem _ (by decide)
  rw [commandOfEntry_of_home (home_entry_tag id name c) (hlen ▸ h), hlen, hid, home_entry_name id c h,
    home_entry_color id c h]

end Home

/-- A Home leads to the fatal request (R142). -/
theorem consumerAction_home_entry (id : Byte) (name : List Byte) (c : Color) :
    consumerAction (DisplayCommand.home id name c).entry = .requestFatal := by
  rw [consumerAction, home_entry_tag]
  rfl

/-- Settles O45: each staged entry is read byte by byte, and the rendered entries are those read as Clear,
Splash or Panic. -/
theorem entryLayoutRoundTrip : Obligations.EntryLayoutRoundTrip := by
  unfold Obligations.EntryLayoutRoundTrip
  refine ⟨by decide, fun m h => ?panic, fun id name c h => ?home, consumerAction_eq_render_iff_command⟩
  case panic =>
    have hcommand := commandOfEntry_panic_entry h
    exact ⟨panic_entry_header m, panic_entry_message h, hcommand,
      (consumerAction_eq_render_iff_command _).mpr (.inr (.inr ⟨m, hcommand⟩))⟩
  case home =>
    exact ⟨home_entry_header id c h, home_entry_name id c h, home_entry_color id c h,
      home_entry_getElem id c h (k := 3) (by decide), commandOfEntry_home_entry id c h,
      consumerAction_home_entry id name c⟩

/-! ## The drawing -/

/-- A write of CMD by the idle P2 is the issue of its word, and the bookkeeping of P2's role (R22, R141). -/
theorem State.perform_context_p2_of_idle {s : State} (hc : s.cfg.wf = true) (hidle : s.renderer = .idle)
    (w : Word) :
    s.perform (.context .p2 (writeAccess s.cfg .p2 .cmd w)) =
      mapNext (fun t => t.noteRole .p2 (some w)) (s.issueCommand .p2 w) := by
  have hplace := writeAccess_place hc .p2 .cmd w
  have hrole : s.roleAllows .p2 (writeAccess s.cfg .p2 .cmd w) = true := by
    simp [State.roleAllows, hplace, hidle]
  have hcommand : (writeAccess s.cfg .p2 .cmd w).command s.cfg = some w := by
    rw [Access.command, hplace]
    rfl
  rw [← State.perform_write_cmd hc, ← hcommand]
  exact if_pos hrole

theorem decode_qPop : decode 0x41000000 = .ok .qPop :=
  (decode_eq_ok_iff_encode_eq _ _).mpr rfl

/-- Past the startup checks P2's Q_POP passes the front end (R170). -/
theorem State.accepts_qPop {s : State} (hfatal : s.fatal = false) (hclk : s.clkEn = true) (hq : s.qEn = true) :
    (s.onPort .p2).accepts .qPop = true := by
  simp [State.accepts_iff, State.onPort, State.startsTooEarly, Instr.ports, hfatal, hclk, hq]

/-- A pop that answered OK starts the drawing of the entry in BUF (R141). -/
theorem rendererAfter_of_popped {t : State} (hidle : t.renderer = .idle) (hok : t.p2.result = .ok) :
    rendererAfter 0x41000000 t = .drawing t.p2.buf false := by
  have hword : decodesTo 0x41000000 .qPop = true := by
    rw [decodesTo, decode_qPop]
    rfl
  simp only [rendererAfter, hidle, hword, hok]
  rfl

/-- A drawing ends only of an entry P2 may render, or after the fatal request (R142). -/
theorem State.mayFinish_drawing {s : State} {e : Entry} {requested : Bool}
    (h : s.renderer = .drawing e requested) :
    s.mayFinish = true ↔ consumerAction e = .render ∨ requested = true := by
  simp [State.mayFinish, h]

/-- Settles O43: the pop passes the front end and answers the oldest entry with OK, which is what starts a
drawing of it; a drawing ends under the condition State.mayFinish. -/
theorem rendererDrawsWhatItPops : Obligations.RendererDrawsWhatItPops := by
  unfold Obligations.RendererDrawsWhatItPops
  refine ⟨fun s hc hidle hfatal hclk hq hvisible => ?pop, fun s t e requested hdrawing h => ?done⟩
  case pop =>
    rw [State.perform_context_p2_of_idle hc hidle, State.issueCommand_of_decode decode_qPop,
      exec_of_accepts (State.accepts_qPop hfatal hclk hq), ruleOf,
      qPopRule_of_visible (s := s.onPort .p2) hvisible]
    simp only [← slotOf_val]
    exact ⟨_, rfl, rendererAfter_of_popped hidle rfl, rfl, rfl⟩
  case done =>
    obtain ⟨hmay, -⟩ := stepIf_next h
    rw [State.mayFinish_drawing hdrawing, consumerAction_eq_render_iff] at hmay
    exact hmay.symm

/-! ## The reach of the renderer -/

/-- The state that has what the renderer's operations can change from t, and all else from s (R193). -/
def State.withRenderer (s t : State) : State :=
  { s with
    p2 := t.p2
    rptr := t.rptr
    fatal := t.fatal
    fatalCause := t.fatalCause
    busAnswers := t.busAnswers
    jitterAnswers := t.jitterAnswers
    drawn := t.drawn }

/-- From s to t, with P2 issuing, no more has changed than what the renderer's operations reach. -/
structure State.RendererReach (s t : State) : Prop where
  issuing : t.issuing = .p2
  frame : t = s.withRenderer t

namespace State.RendererReach

variable {s t : State}

theorem refl (h : s.issuing = .p2) : RendererReach s s :=
  ⟨h, rfl⟩

/-- An update of what the renderer reaches leaves the rest as it is. -/
theorem update (h : RendererReach s t) (f : State → State) (hissuing : (f t).issuing = t.issuing)
    (hf : f (s.withRenderer t) = s.withRenderer (f t)) : RendererReach s (f t) :=
  ⟨hissuing.trans h.issuing, (congrArg f h.frame).trans hf⟩

theorem withRegs (h : RendererReach s t) (r : PortRegs) : RendererReach s (t.withRegs r) := by
  rw [State.withRegs, h.issuing]
  exact h.update (·.setPort .p2 r) rfl rfl

theorem setResult (h : RendererReach s t) (c : Result) : RendererReach s (t.setResult c) :=
  h.withRegs _

theorem setResp0 (h : RendererReach s t) (v : Word) : RendererReach s (t.setResp0 v) :=
  h.withRegs _

theorem setResp1 (h : RendererReach s t) (v : Word) : RendererReach s (t.setResp1 v) :=
  h.withRegs _

theorem setResp2 (h : RendererReach s t) (v : Word) : RendererReach s (t.setResp2 v) :=
  h.withRegs _

theorem raiseFatal (h : RendererReach s t) (c : BitVec 8) : RendererReach s (t.raiseFatal c) :=
  (h.update (fun u => { u with fatal := true, fatalCause := if u.fatal then u.fatalCause else c })
    rfl rfl).setResult _

theorem popped (h : RendererReach s t) : RendererReach s { t with rptr := t.rptr + 1 } :=
  h.update (fun u => { u with rptr := u.rptr + 1 }) rfl rfl

theorem jitterAsked (h : RendererReach s t) : RendererReach s t.jitterAsked := by
  refine h.update State.jitterAsked t.jitterAsked_issuing ?_
  unfold State.jitterAsked
  rw [show (s.withRenderer t).jitterAnswers = t.jitterAnswers from rfl]
  split <;> rfl

end State.RendererReach

theorem fatalReqRule_reach {s : State} (h : s.issuing = .p2) (c : BitVec 8) :
    State.RendererReach s (fatalReqRule c s) := by
  unfold fatalReqRule
  split
  · exact .setResult (.refl h) _
  · exact .raiseFatal (.refl h) c

theorem clkReadRule_reach {s : State} (h : s.issuing = .p2) : State.RendererReach s (clkReadRule s) := by
  unfold clkReadRule
  split
  · exact .setResult (.refl h) _
  · exact .setResult (.setResp1 (.setResp0 (.refl h) _) _) _

theorem rngReadRule_reach {s : State} (h : s.issuing = .p2) : State.RendererReach s (rngReadRule s) := by
  unfold rngReadRule
  dsimp only
  split
  · exact .setResult (.refl h) _
  · split
    · exact .setResult (.setResp0 (.refl h) _) _
    · exact .setResult (.setResp0 (.jitterAsked (.refl h)) _) _

theorem qPopRule_reach {s : State} (h : s.issuing = .p2) : State.RendererReach s (qPopRule s) := by
  by_cases hempty : s.rptr = s.wsync
  · rw [qPopRule_of_empty hempty]
    exact .withRegs (.refl h) _
  · rw [qPopRule_of_visible hempty]
    exact .withRegs (.popped (.refl h)) _

theorem qLevelRule_reach {s : State} (h : s.issuing = .p2) : State.RendererReach s (qLevelRule s) := by
  unfold qLevelRule
  split
  · exact .setResult (.refl h) _
  · exact .setResult (.setResp0 (.refl h) _) _

theorem usbStateReadRule_reach {s : State} (h : s.issuing = .p2) :
    State.RendererReach s (usbStateReadRule s) := by
  unfold usbStateReadRule
  split
  · exact .setResult (.refl h) _
  · exact .setResult (.setResp0 (.refl h) _) _

/-- The rules of the operations P2 may issue (R171) reach no further. -/
theorem ruleOf_reach {i : Instr} {s : State} (h : s.issuing = .p2) (hport : .p2 ∈ Instr.ports i) :
    State.RendererReach s (ruleOf i s) := by
  cases i with
  | nop => exact .setResult (.refl h) _
  | readCtrl => exact .setResult (.setResp2 (.setResp1 (.setResp0 (.refl h) _) _) _) _
  | fatalReq c => exact fatalReqRule_reach h c
  | clkRead => exact clkReadRule_reach h
  | rngRead => exact rngReadRule_reach h
  | qPop => exact qPopRule_reach h
  | qLevel => exact qLevelRule_reach h
  | usbStateRead => exact usbStateReadRule_reach h
  | _ => simp [Instr.ports] at hport

/-- Settles O44: the front end writes RESULT or raises Fatal, and the rules P2 may run reach no further than
its registers, rptr, the fatal state and JITTER. -/
theorem rendererReachesOnlyTheQueue : Obligations.RendererReachesOnlyTheQueue := by
  unfold Obligations.RendererReachesOnlyTheQueue
  intro i s t hp2 h
  have hs : State.RendererReach s s := .refl hp2
  have hreach : State.RendererReach s t := by
    refine exec_cases h (State.RendererReach s) (fun _ _ => hs.setResult _) (fun _ _ => hs.raiseFatal _)
      (fun _ _ _ => hs.setResult _) fun hacc => ?_
    obtain ⟨-, -, hport⟩ := (s.accepts_iff i).mp hacc
    exact ruleOf_reach hp2 (hp2 ▸ hport)
  exact hreach.frame

end Sys2Proof.Machine
end

section
/-!
PROOFS. The USB controller of 44_usb.md: what its three operations answer, what the steps of the host do, and
what every step does to the interrupt's event and to the keyboard reports (R151 to R164).
-/

namespace Sys2Proof.Machine

/-! ## USB_PUSH_KBD -/

/-- The eight bytes of a keyboard report: those of DATA0, then those of DATA1 (R151, R153). -/
def reportBytes (data0 data1 : Word) : Vector Byte 8 :=
  ⟨(reportOperand data0 data1).toArray, rfl⟩

theorem reportBytes_data0 (data0 data1 : Word) :
    (reportBytes data0 data1)[3] ++ (reportBytes data0 data1)[2] ++ (reportBytes data0 data1)[1] ++
      (reportBytes data0 data1)[0] = data0 :=
  wordOfBytes_extractLsb' data0

theorem reportBytes_data1 (data0 data1 : Word) :
    (reportBytes data0 data1)[7] ++ (reportBytes data0 data1)[6] ++ (reportBytes data0 data1)[5] ++
      (reportBytes data0 data1)[4] = data1 :=
  wordOfBytes_extractLsb' data1

theorem usbPushKbdRule_of_not_init {s : State} (h : s.usbEn = false) :
    usbPushKbdRule s = s.withRegs { s.regs with result := .errNotInit } := by
  rw [usbPushKbdRule, if_pos (by simp [h]), State.setResult_eq_withRegs]

theorem usbPushKbdRule_of_not_configured {s : State} (h : s.usbEn = true) (hconf : s.configured = false) :
    usbPushKbdRule s = s.withRegs { s.regs with resp0 := 0, result := .errUsbState } := by
  rw [usbPushKbdRule, if_neg (by simp [h]), if_pos (by simp [hconf]), State.setResp0_setResult]

theorem usbPushKbdRule_of_full {s : State} (h : s.usbEn = true) (hconf : s.configured = true)
    (hfull : s.kbd.inFull = true) :
    usbPushKbdRule s = s.withRegs { s.regs with resp0 := 0, result := .wouldBlock } := by
  rw [usbPushKbdRule, if_neg (by simp [h]), if_neg (by simp [hconf]), if_pos hfull, State.setResp0_setResult]

theorem usbPushKbdRule_of_room {s : State} (h : s.usbEn = true) (hconf : s.configured = true)
    (hroom : s.kbd.inFull = false) :
    usbPushKbdRule s =
      { s with kbd := { s.kbd with
          inFull := true
          inBuf := reportOperand s.regs.data0 s.regs.data1 } }.withRegs
        { s.regs with resp0 := 8, result := .ok } := by
  rw [usbPushKbdRule, if_neg (by simp [h]), if_neg (by simp [hconf]), if_neg (by simp [hroom]),
    State.setResp0_setResult]
  rfl

/-- Settles O36: the four clauses are the four branches of the rule. -/
theorem usbPushQueuesOneReport : Obligations.UsbPushQueuesOneReport := by
  unfold Obligations.UsbPushQueuesOneReport
  refine ⟨rfl, rfl, fun s hacc => ?_⟩
  have hregs : s.regs = s.p0 := State.regs_of_accepts_p0 rfl hacc
  rw [exec_of_accepts hacc]
  refine ⟨fun hoff => ?notInit, fun hon hconf => ?notConfigured, fun hon hconf hfull => ?full,
    fun hon hconf hroom => ?room⟩
  case notInit => exact congrArg _ (usbPushKbdRule_of_not_init hoff)
  case notConfigured => exact congrArg _ (usbPushKbdRule_of_not_configured hon hconf)
  case full => exact congrArg _ (usbPushKbdRule_of_full hon hconf hfull)
  case room =>
    refine ⟨reportBytes s.regs.data0 s.regs.data1, ?_, ?_,
      congrArg _ (usbPushKbdRule_of_room hon hconf hroom)⟩
    · rw [reportBytes_data0, hregs]
    · rw [reportBytes_data1, hregs]

/-! ## The words of flags that USB_POLL and USB_STATE_READ answer -/

theorem flagBits_singleton (b : Bool) : flagBits [b] = (BitVec.ofBool b).setWidth 32 := by
  cases b <;> rfl

/-- Flags from bit k on, one for each entry of a list (R154, R160). -/
theorem flagBits_map_shiftLeft_getLsbD {α : Type} (f : α → Bool) {l : List α} {k : Nat}
    (h : k + l.length ≤ 32) (n : Nat) :
    (flagBits (l.map f) <<< k).getLsbD n = (decide (k ≤ n) && (l[n - k]?).any f) := by
  rw [BitVec.getLsbD_shiftLeft, flagBits_getLsbD _ _ (by rw [List.length_map]; omega), List.getElem?_map,
    Option.any_map]
  by_cases hk : k ≤ n
  · by_cases hn : n < 32
    · simp [hk, hn, Nat.not_lt.mpr hk]
    · simp [hn, List.getElem?_eq_none (show l.length ≤ n - k by omega)]
  · simp [hk, Nat.not_le.mp hk]

theorem flagBits_map_getLsbD {α : Type} (f : α → Bool) {l : List α} (h : l.length ≤ 32) (n : Nat) :
    (flagBits (l.map f)).getLsbD n = (l[n]?).any f := by
  simpa using flagBits_map_shiftLeft_getLsbD f (k := 0) (by omega) n

/-- Outside the bits of its entries a list sets no flag. -/
theorem flag_eq_false_of_no_entry {α : Type} (f : α → Bool) {l : List α} {k n : Nat}
    (h : k ≤ n → l.length ≤ n - k) : (decide (k ≤ n) && (l[n - k]?).any f) = false := by
  by_cases hk : k ≤ n
  · simp [List.getElem?_eq_none (h hk)]
  · simp [hk]

/-- A poll's answer bit by bit (R154). -/
theorem State.pollWord_getLsbD {s : State} (h : s.hid.length ≤ 3) (n : Nat) :
    s.pollWord.getLsbD n =
      if n = 8 then s.ctrlPending else (s.hid[n]?).any (fun x => x.outPending) := by
  have hword : s.pollWord = flagBits (s.hid.map HidInstance.outPending) |||
      (flagBits ([s.ctrlPending].map id) <<< 8) := by
    rw [State.pollWord, List.map_id, flagBits_singleton]
  rw [hword, BitVec.getLsbD_or, flagBits_map_getLsbD _ (h.trans (by decide)),
    flagBits_map_shiftLeft_getLsbD _ (by decide : 8 + 1 ≤ 32)]
  split
  next h8 => simp [h8, List.getElem?_eq_none (show s.hid.length ≤ 8 by omega)]
  next h8 => rw [flag_eq_false_of_no_entry _ (by simp; omega), Bool.or_false]

/-- The controller's flags bit by bit (R160). -/
theorem State.usbWord_getLsbD {s : State} (h : s.hid.length ≤ 3) (n : Nat) :
    s.usbWord.getLsbD n =
      if n = 0 then s.configured
      else if n = 1 then s.ctrlPending
      else if n = 2 then s.evPending
      else if 8 ≤ n ∧ n < 11 then (s.hid[n - 8]?).any (fun x => x.inFull)
      else if 16 ≤ n ∧ n < 19 then (s.hid[n - 16]?).any (fun x => x.outPending)
      else false := by
  rw [State.usbWord, BitVec.getLsbD_or, BitVec.getLsbD_or, flagBits_getLsbD _ _ (by simp),
    flagBits_map_shiftLeft_getLsbD _ (by omega), flagBits_map_shiftLeft_getLsbD _ (by omega)]
  have hcontrol : 3 ≤ n → [s.configured, s.ctrlPending, s.evPending][n]? = none :=
    fun hn => List.getElem?_eq_none hn
  split_ifs with h0 h1 h2 hin hout
  · simp [h0]
  · simp [h1]
  · simp [h2]
  · rw [hcontrol (by omega), flag_eq_false_of_no_entry HidInstance.outPending (by omega)]
    simp [hin]
  · rw [hcontrol (by omega), flag_eq_false_of_no_entry HidInstance.inFull (by omega)]
    simp [hout]
  · rw [hcontrol (by omega), flag_eq_false_of_no_entry HidInstance.inFull (by omega),
      flag_eq_false_of_no_entry HidInstance.outPending (by omega)]
    rfl

/-! ## USB_POLL -/

theorem usbPollRule_of_not_init {s : State} (h : s.usbEn = false) :
    usbPollRule s = s.withRegs { s.regs with result := .errNotInit } := by
  rw [usbPollRule, if_pos (by simp [h]), State.setResult_eq_withRegs]

theorem usbPollRule_of_init {s : State} (h : s.usbEn = true) :
    usbPollRule s =
      { s with
        configured := if s.ctrlPending then true else s.configured
        ctrlPending := false
        kbd := { s.kbd with outPending := false }
        moreHid := s.moreHid.map (fun x : HidInstance => { x with outPending := false })
        evPending := false }.withRegs { s.regs with resp0 := s.pollWord, result := .ok } := by
  have hconf : (if s.ctrlPending then true else s.configured) = (s.configured || s.ctrlPending) := by
    cases s.ctrlPending <;> simp
  rw [usbPollRule, if_neg (by simp [h]), State.setResp0_setResult, hconf]
  rfl

/-- Settles O37: past the check of usb_en the rule answers the poll word of the state it finds. -/
theorem usbPollServicesTheController : Obligations.UsbPollServicesTheController := by
  unfold Obligations.UsbPollServicesTheController
  refine ⟨rfl, rfl, fun s hacc => ?_⟩
  rw [exec_of_accepts hacc]
  exact ⟨fun hoff => congrArg _ (usbPollRule_of_not_init hoff),
    fun hon hlen => ⟨s.pollWord, s.pollWord_getLsbD hlen, congrArg _ (usbPollRule_of_init hon)⟩⟩

/-! ## USB_STATE_READ -/

theorem usbStateReadRule_of_not_init {s : State} (h : s.usbEn = false) :
    usbStateReadRule s = s.withRegs { s.regs with result := .errNotInit } := by
  rw [usbStateReadRule, if_pos (by simp [h]), State.setResult_eq_withRegs]

theorem usbStateReadRule_of_init {s : State} (h : s.usbEn = true) :
    usbStateReadRule s = s.withRegs { s.regs with resp0 := s.usbWord, result := .ok } := by
  rw [usbStateReadRule, if_neg (by simp [h]), State.setResp0_setResult]

/-- Settles O38: past the check of usb_en the rule answers the flags and writes nothing else. -/
theorem usbStateReadShowsTheFlags : Obligations.UsbStateReadShowsTheFlags := by
  unfold Obligations.UsbStateReadShowsTheFlags
  refine ⟨rfl, fun p => by cases p <;> decide, fun s hacc => ?_⟩
  rw [exec_of_accepts hacc]
  exact ⟨fun hoff => congrArg _ (usbStateReadRule_of_not_init hoff),
    fun hon hlen => ⟨s.usbWord, s.usbWord_getLsbD hlen, congrArg _ (usbStateReadRule_of_init hon)⟩⟩

/-! ## The steps of the host -/

theorem State.hid_modifyHid (s : State) (h : Nat) (f : HidInstance → HidInstance) :
    (s.modifyHid h f).hid = s.hid.modify h f := by
  cases h <;> rfl

/-- Changing an endpoint that exists is putting the changed one in its place. -/
theorem State.hid_modifyHid_of_getElem? {s : State} {h : Nat} {x : HidInstance} (hx : s.hid[h]? = some x)
    (f : HidInstance → HidInstance) : (s.modifyHid h f).hid = s.hid.set h (f x) := by
  rw [State.hid_modifyHid, List.modify_eq_set_getElem?, hx]
  rfl

theorem State.mayConfigure_iff (s : State) :
    s.mayConfigure = true ↔ s.usbEn = true ∧ s.configured = false ∧ s.ctrlPending = false := by
  simp [State.mayConfigure, and_assoc]

theorem State.mayTake_iff (s : State) (h : Nat) :
    s.mayTake h = true ↔
      s.usbEn = true ∧ s.configured = true ∧ ∃ x, s.hid[h]? = some x ∧ x.inFull = true := by
  simp [State.mayTake, State.hidAt?, and_assoc, Option.any_eq_true]

theorem State.maySendOut_iff (s : State) (h : Nat) :
    s.maySendOut h = true ↔
      s.usbEn = true ∧ s.configured = true ∧ ∃ x, s.hid[h]? = some x ∧ x.outPending = false := by
  simp [State.maySendOut, State.hidAt?, and_assoc, Option.any_eq_true]

theorem State.hostTake_frame (s : State) (h : Nat) :
    s.hostTake h = { s with
      hostLog := (s.hostTake h).hostLog
      kbd := (s.hostTake h).kbd
      moreHid := (s.hostTake h).moreHid
      evPending := true } := by
  cases h <;> rfl

theorem State.hostTake_hostLog {s : State} {h : Nat} {x : HidInstance} (hx : s.hid[h]? = some x) :
    (s.hostTake h).hostLog = s.hostLog ++ [(h, x.inBuf)] := by
  simp [State.hostTake, State.hidAt?, hx]

theorem State.hostOut_frame (s : State) (h : Nat) :
    s.hostOut h = { s with
      kbd := (s.hostOut h).kbd
      moreHid := (s.hostOut h).moreHid
      evPending := true } := by
  cases h <;> rfl

/-- Settles O40: each step of the host is guarded by a condition of the model, and the lemmas above say what
these conditions are and what TAKE_IN and SEND_OUT change. -/
theorem hostStepsFollowTheirRules : Obligations.HostStepsFollowTheirRules := by
  unfold Obligations.HostStepsFollowTheirRules
  intro s
  refine ⟨fun hon hconf hpend => ?configures, fun hoff => ?noConfigure, fun hon => ?resets,
    fun hoff => ?noReset, fun h x hon hconf hx hfull => ?takes, fun h hnone => ?noTake,
    fun h x hon hconf hx hfree => ?sends, fun h hnone => ?noSend, fun h hoff => ⟨?takeOff, ?sendOff⟩⟩
  case configures => exact stepIf_of_enabled _ (s.mayConfigure_iff.mpr ⟨hon, hconf, hpend⟩)
  case noConfigure =>
    refine stepIf_of_not_enabled _ fun hmay => ?_
    obtain ⟨hon, hconf, hpend⟩ := s.mayConfigure_iff.mp hmay
    simp [hon, hconf, hpend] at hoff
  case resets => exact stepIf_of_enabled _ hon
  case noReset => exact stepIf_of_not_enabled _ (by simp [hoff])
  case takes =>
    exact ⟨s.hostTake h, stepIf_of_enabled _ ((s.mayTake_iff h).mpr ⟨hon, hconf, x, hx, hfull⟩),
      State.hostTake_hostLog hx, State.hid_modifyHid_of_getElem? hx _, rfl, s.hostTake_frame h⟩
  case noTake =>
    refine stepIf_of_not_enabled _ fun hmay => ?_
    obtain ⟨-, -, x, hx, hfull⟩ := (s.mayTake_iff h).mp hmay
    simp [hnone x hx] at hfull
  case sends =>
    exact ⟨s.hostOut h, stepIf_of_enabled _ ((s.maySendOut_iff h).mpr ⟨hon, hconf, x, hx, hfree⟩),
      State.hid_modifyHid_of_getElem? hx _, rfl, s.hostOut_frame h⟩
  case noSend =>
    refine stepIf_of_not_enabled _ fun hmay => ?_
    obtain ⟨-, -, x, hx, hfree⟩ := (s.maySendOut_iff h).mp hmay
    simp [hnone x hx] at hfree
  case takeOff =>
    refine stepIf_of_not_enabled _ fun hmay => ?_
    obtain ⟨hon, hconf, -⟩ := (s.mayTake_iff h).mp hmay
    simp [hon, hconf] at hoff
  case sendOff =>
    refine stepIf_of_not_enabled _ fun hmay => ?_
    obtain ⟨hon, hconf, -⟩ := (s.maySendOut_iff h).mp hmay
    simp [hon, hconf] at hoff

/-! ## What every step does to the event and to the reports -/

/-- An issued operation keeps a field that neither the front end changes nor, on a port that may issue the
operation, its rule (R170, R171). -/
theorem dispatchOp_keeps_field {α : Type} (f : State → α) {u : State} {p : Port} {i : Instr}
    (hResult : ∀ c, f ((u.onPort p).setResult c) = f u)
    (hEarly : f ((u.onPort p).raiseFatal causeStartupOrder) = f u)
    (hRule : p ∈ Instr.ports i → f (ruleOf i (u.onPort p)) = f u) :
    f (dispatchOp i (ruleOf i) (u.onPort p)) = f u := by
  refine dispatchOp_cases i (u.onPort p) (fun t => f t = f u) (fun _ _ => hResult _) (fun _ _ => hEarly)
    (fun _ _ _ => hResult _) fun hacc => ?_
  obtain ⟨-, -, hport⟩ := ((u.onPort p).accepts_iff i).mp hacc
  exact hRule hport

/-- Only a USB_POLL on P1 can touch ev_pending by an operation (R154, R171). -/
theorem dispatchOp_evPending_of_no_poll {u : State} {p : Port} {i : Instr}
    (h : ¬ (p = .p1 ∧ i = .usbPoll)) :
    (dispatchOp i (ruleOf i) (u.onPort p)).evPending = u.evPending := by
  refine dispatchOp_keeps_field (·.evPending) (by simp) (by simp) fun hport => ?_
  refine ruleOf_evPending i _ ?_
  rintro rfl
  exact h ⟨List.mem_singleton.mp hport, rfl⟩

/-- The environment clears no event but by RESET (R159). -/
theorem State.perform_environment_evPending {u t : State} {a : Act} (henv : a.isEnvironment = true)
    (hreset : a ≠ .reset) (h : u.perform a = .next t) (hev : u.evPending = true) : t.evPending = true := by
  cases a with
  | bus x => cases henv
  | context c x => cases henv
  | reset => exact absurd rfl hreset
  | syncW => cases h; exact hev
  | syncR => cases h; exact hev
  | keypad lines => cases h; exact hev
  | hostConfigure | hostReset | hostTake n | hostOut n => obtain ⟨-, rfl⟩ := stepIf_next h; rfl
  | _ => obtain ⟨-, rfl⟩ := stepIf_next h; simpa using hev

/-- Settles O41: the environment keeps an event up to RESET, and so does every access that does not issue a
USB_POLL on P1. -/
theorem eventIsClearedOnlyByPoll : Obligations.EventIsClearedOnlyByPoll := by
  unfold Obligations.EventIsClearedOnlyByPoll
  intro s s' h hev hcleared
  by_contra hno
  obtain ⟨hreset, hpoll⟩ := not_or.mp hno
  refine Bool.eq_false_iff.mp hcleared ?_
  by_cases henv : ∃ a, s.nextAct = some a ∧ a.isEnvironment = true
  case pos =>
    obtain ⟨a, hnext, henv⟩ := henv
    rcases step_cases h with ⟨hnone, -⟩ | ⟨b, hnext', hb⟩
    · rw [hnext] at hnone; cases hnone
    · obtain rfl : a = b := Option.some.inj (hnext.symm.trans hnext')
      refine State.perform_environment_evPending henv ?_ hb (by simpa using hev)
      rintro rfl; exact hreset hnext
  case neg =>
    refine Eq.trans (step_keeps_field (·.evPending) h (by simp) (by simp) (by simp) ?op (by simp) (by simp)
      ?env) hev
    case op =>
      intro u p i hissues
      refine dispatchOp_evPending_of_no_poll ?_
      rintro ⟨rfl, rfl⟩
      exact hpoll hissues
    case env => exact fun u a t hnext ha _ => absurd ⟨a, hnext, ha⟩ henv

/-- The reports are a function of host_log and of the keyboard's IN side. -/
theorem State.reports_congr {s t : State} (hlog : t.hostLog = s.hostLog) (hfull : t.kbd.inFull = s.kbd.inFull)
    (hbuf : t.kbd.inBuf = s.kbd.inBuf) : t.reports = s.reports := by
  rw [State.reports, State.reports, hlog, hfull, hbuf]

/-- The keyboard reports the host has taken, oldest first (R157). -/
def State.takenReports (s : State) : List (List Byte) :=
  (s.hostLog.filter (fun x => x.1 == 0)).map (fun x => x.2)

theorem State.reports_of_empty {s : State} (h : s.kbd.inFull = false) : s.reports = s.takenReports := by
  simp [State.reports, State.takenReports, h]

theorem State.reports_of_full {s : State} (h : s.kbd.inFull = true) :
    s.reports = s.takenReports ++ [s.kbd.inBuf] := by
  simp [State.reports, State.takenReports, h]

/-- TAKE_IN moves the outstanding keyboard report to the end of host_log, or takes another endpoint's
report (R157, R161). -/
theorem State.reports_hostTake {s : State} {n : Nat} (hmay : s.mayTake n = true) :
    (s.hostTake n).reports = s.reports := by
  obtain ⟨-, -, x, hx, hfull⟩ := (s.mayTake_iff n).mp hmay
  have hlog := State.hostTake_hostLog hx
  cases n with
  | zero =>
    obtain rfl : s.kbd = x := Option.some.inj hx
    rw [State.reports_of_full hfull, State.reports_of_empty (s := s.hostTake 0) rfl]
    simp [State.takenReports, hlog]
  | succ n =>
    have hkbd : (s.hostTake (n + 1)).kbd = s.kbd := rfl
    simp [State.reports, hlog, hkbd]

theorem State.reports_hostOut (s : State) (n : Nat) : (s.hostOut n).reports = s.reports := by
  cases n <;> exact State.reports_congr rfl rfl rfl

/-- The environment keeps the sequence of reports but by HOST RESET and RESET (R161, R164). -/
theorem State.perform_environment_reports {u t : State} {a : Act} (henv : a.isEnvironment = true)
    (hbus : a ≠ .hostReset) (hreset : a ≠ .reset) (h : u.perform a = .next t) : t.reports = u.reports := by
  cases a with
  | bus x => cases henv
  | context c x => cases henv
  | reset => exact absurd rfl hreset
  | hostReset => exact absurd rfl hbus
  | syncW => cases h; rfl
  | syncR => cases h; rfl
  | keypad lines => cases h; rfl
  | hostTake n => obtain ⟨hmay, rfl⟩ := stepIf_next h; exact State.reports_hostTake hmay
  | hostOut n => obtain ⟨-, rfl⟩ := stepIf_next h; exact u.reports_hostOut n
  | _ => obtain ⟨-, rfl⟩ := stepIf_next h; exact State.reports_congr (by simp) (by simp) (by simp)

/-- No operation but USB_PUSH_KBD touches the reports; a poll drains the OUT side alone (R154). -/
theorem ruleOf_reports {i : Instr} (s : State) (h : i ≠ .usbPushKbd) : (ruleOf i s).reports = s.reports := by
  by_cases hpoll : i = .usbPoll
  · subst hpoll
    rw [ruleOf]
    cases hon : s.usbEn with
    | false => rw [usbPollRule_of_not_init hon]; rfl
    | true => rw [usbPollRule_of_init hon]; rfl
  · have hkbd : (ruleOf i s).kbd = s.kbd := ruleOf_kbd i s h hpoll
    exact State.reports_congr (ruleOf_hostLog i s) (by rw [hkbd]) (by rw [hkbd])

/-- Only a USB_PUSH_KBD on P0 can touch the reports by an operation (R171). -/
theorem dispatchOp_reports_of_no_push {u : State} {p : Port} {i : Instr}
    (h : ¬ (p = .p0 ∧ i = .usbPushKbd)) :
    (dispatchOp i (ruleOf i) (u.onPort p)).reports = u.reports := by
  refine dispatchOp_keeps_field State.reports (fun _ => rfl) rfl fun hport => ?_
  refine ruleOf_reports _ ?_
  rintro rfl
  exact h ⟨List.mem_singleton.mp hport, rfl⟩

/-- From s to t the reports stay as they are, or P0 answers OK and the report of its DATA0 and DATA1 is
appended (R153, R161). -/
def State.KeepsOrAppendsReport (s t : State) : Prop :=
  t.reports = s.reports ∨
    t.p0.result = .ok ∧ t.reports = s.reports ++ [reportOperand s.p0.data0 s.p0.data1]

theorem usbPushKbdRule_keepsOrAppendsReport (s : State) :
    s.KeepsOrAppendsReport (usbPushKbdRule (s.onPort .p0)) := by
  cases hon : s.usbEn with
  | false => rw [usbPushKbdRule_of_not_init (s := s.onPort .p0) hon]; exact .inl rfl
  | true =>
    cases hconf : s.configured with
    | false => rw [usbPushKbdRule_of_not_configured (s := s.onPort .p0) hon hconf]; exact .inl rfl
    | true =>
      cases hfull : s.kbd.inFull with
      | true => rw [usbPushKbdRule_of_full (s := s.onPort .p0) hon hconf hfull]; exact .inl rfl
      | false =>
        rw [usbPushKbdRule_of_room (s := s.onPort .p0) hon hconf hfull]
        refine .inr ⟨rfl, ?_⟩
        rw [State.reports_of_empty hfull, State.reports_of_full rfl]
        rfl

/-- The front end of USB_PUSH_KBD touches no report (R170). -/
theorem dispatchOp_usbPushKbd_keepsOrAppendsReport (s : State) :
    s.KeepsOrAppendsReport (dispatchOp .usbPushKbd (ruleOf .usbPushKbd) (s.onPort .p0)) :=
  dispatchOp_cases .usbPushKbd (s.onPort .p0) s.KeepsOrAppendsReport (fun _ _ => .inl rfl)
    (fun _ _ => .inl rfl) (fun _ _ _ => .inl rfl) fun _ => usbPushKbdRule_keepsOrAppendsReport s

/-- An access that issues an operation performs it. -/
theorem access_of_operation {s t : State} {x : Access} {p : Port} {i : Instr} (h : s.access x = .next t)
    (hop : x.operation s.cfg = some (p, i)) : t = dispatchOp i (ruleOf i) (s.onPort p) := by
  rcases access_cases h with ⟨hno, -⟩ | ⟨hno, -⟩ | ⟨q, w, j, hq, -, -, -, he⟩ | ⟨q, w, why, hno, -⟩
  case inr.inr.inl =>
    obtain ⟨rfl, rfl⟩ : q = p ∧ j = i := by simpa [hq] using hop
    rw [exec_eq] at he
    exact (Host.Outcome.next.inj he).symm
  all_goals rw [hno] at hop; cases hop

/-- A step that issues an operation performs it, and then notes it in a context's role, if a context took
the step. -/
theorem step_of_issues {s s' : State} {p : Port} {i : Instr} (h : step s = .next s')
    (hissues : s.issues = some (p, i)) :
    ∃ c w, s' = (dispatchOp i (ruleOf i) (s.picked.onPort p)).noteRole c w := by
  rcases step_cases h with ⟨hnone, -⟩ | ⟨a, hnext, ha⟩
  · simp [State.issues, hnone] at hissues
  · cases a with
    | bus x =>
      rw [issues_bus hnext, ← s.picked_cfg] at hissues
      exact ⟨.p0, none, access_of_operation ha hissues⟩
    | context c x =>
      rw [issues_context hnext, ← s.picked_cfg] at hissues
      obtain ⟨-, u, hu, rfl⟩ := contextStep_cases ha
      exact ⟨c, _, congrArg (State.noteRole · c _) (access_of_operation hu hissues)⟩
    | _ => rw [State.issues_eq_none_of_environment hnext rfl] at hissues; cases hissues

@[simp] theorem State.reports_picked (s : State) : s.picked.reports = s.reports :=
  State.reports_congr (by simp) (by simp) (by simp)

@[simp] theorem State.reports_noteRole (s : State) (c : Port) (w : Option Word) :
    (s.noteRole c w).reports = s.reports :=
  State.reports_congr (by simp) (by simp) (by simp)

@[simp] theorem State.reports_writeReg (s : State) (p : Port) (r : Reg) (v : Word) :
    (s.writeReg p r v).reports = s.reports :=
  State.reports_congr (by simp) (by simp) (by simp)

@[simp] theorem reports_dispatchIllegal (s : State) : (dispatchIllegal s).reports = s.reports :=
  State.reports_congr (by simp) (by simp) (by simp)

/-- Settles O39: a USB_PUSH_KBD on P0 keeps the reports or appends its own, and every other step but
HOST RESET and RESET keeps them. -/
theorem reportsReachTheHostInOrder : Obligations.ReportsReachTheHostInOrder := by
  unfold Obligations.ReportsReachTheHostInOrder
  intro s s' h hbus hreset
  by_cases hpush : s.issues = some (.p0, .usbPushKbd)
  case pos =>
    obtain ⟨c, w, rfl⟩ := step_of_issues h hpush
    rcases dispatchOp_usbPushKbd_keepsOrAppendsReport s.picked with hkept | ⟨hok, happended⟩
    · exact .inl (by simpa using hkept)
    · exact .inr ⟨hpush, by simpa using hok, by simpa [reportOperand] using happended⟩
  case neg =>
    left
    refine step_keeps_field State.reports h s.reports_picked (fun _ _ => rfl) State.reports_writeReg ?op
      (fun u p => reports_dispatchIllegal (u.onPort p)) State.reports_noteRole ?env
    case op =>
      intro u p i hissues
      refine dispatchOp_reports_of_no_push ?_
      rintro ⟨rfl, rfl⟩
      exact hpush hissues
    case env =>
      intro u a t hnext henv ha
      refine State.perform_environment_reports henv ?_ ?_ ha
      · rintro rfl; exact hbus hnext
      · rintro rfl; exact hreset hnext

end Sys2Proof.Machine
end

section
/-!
PROOFS. The front end as equations, and the system operations behind it: what a word does in the fatal state,
before CLK and Q are initialised and on a port that may not issue it, and the rules of NOP, INIT, IRQ_EN,
READ_CTRL and FATAL_REQ (45_system.md R170 to R176).
-/

namespace Sys2Proof

/-! ## Bit vectors cut into parts, and the words with OP = 0x00 -/

/-- A field below fixed bits is OR-ed into the word that has the field at 0. -/
theorem append_eq_or_setWidth {m n : Nat} (hi : BitVec m) (f : BitVec n) :
    hi ++ f = hi ++ 0#n ||| f.setWidth (m + n) := by
  ext k hk
  rw [BitVec.getElem_or, BitVec.getElem_append, BitVec.getElem_append, BitVec.getElem_setWidth]
  split
  · simp [*]
  · rw [BitVec.getLsbD_of_ge f k (by omega), Bool.or_false]

/-- The upper part of a bit vector counts in units of the lower part's size. -/
theorem toNat_append_eq_add {m n : Nat} (hi : BitVec m) (lo : BitVec n) :
    (hi ++ lo).toNat = hi.toNat * 2 ^ n + lo.toNat := by
  rw [BitVec.toNat_append, ← Nat.shiftLeft_add_eq_or_of_lt lo.isLt, Nat.shiftLeft_eq]

/-- The mask of every row keeps the OP field (R71, R74). -/
theorem mask_opcode_of_mem {r : Row} (hr : r ∈ opcodeMap) : r.mask.extractLsb' 24 8 = BitVec.allOnes 8 := by
  revert r
  decide

/-- A word has the OP of the row that it belongs to (R73). -/
theorem Row.opcode_of_holds {r : Row} {w : Word} (hr : r ∈ opcodeMap) (hw : r.holds w = true) :
    r.matchBits.extractLsb' 24 8 = w.extractLsb' 24 8 := by
  rw [← (r.holds_iff w).mp hw, BitVec.extractLsb'_and, mask_opcode_of_mem hr, BitVec.and_allOnes]

/-- NOP's is the one row with OP = 0x00, and its word has no field (R74). -/
theorem fields_of_opcode_zero {r : Row} (hr : r ∈ opcodeMap) (hop : r.matchBits.extractLsb' 24 8 = 0) :
    r.matchBits = 0 ∧ r.mask = BitVec.allOnes 32 := by
  revert r
  decide

/-- Under OP = 0x00 a word with another bit set is rejected for its reserved bits (R75). -/
theorem decode_of_opcode_zero {w : Word} (hop : w.extractLsb' 24 8 = 0) (hw : w ≠ 0) :
    decode w = .error .reservedBits := by
  have hrow : ∀ r ∈ opcodeMap, r.holds w = false := by
    intro r hr
    refine Bool.eq_false_iff.mpr fun hholds => hw ?_
    obtain ⟨hmatch, hmask⟩ := fields_of_opcode_zero hr ((Row.opcode_of_holds hr hholds).trans hop)
    rw [Row.holds_iff, hmatch, hmask, BitVec.and_allOnes] at hholds
    exact hholds
  have hused : illegalReason w = .reservedBits := by
    rw [illegalReason, hop]
    rfl
  rw [decode_of_no_row hrow, hused]

namespace Machine

/-! ## The front end -/

/-- A fatal condition in the fatal state leaves the first cause, so it only answers ERR_FATAL (R183). -/
theorem State.raiseFatal_of_fatal {s : State} (h : s.fatal = true) (c : BitVec 8) :
    s.raiseFatal c = s.setResult .errFatal := by
  have hsame : { s with fatal := true, fatalCause := s.fatalCause } = s := by rw [← h]
  rw [State.raiseFatal, if_pos h, hsame]

theorem State.raiseFatal_eq_withRegs (s : State) (c : BitVec 8) :
    s.raiseFatal c = { s with
      fatal := true
      fatalCause := if s.fatal then s.fatalCause else c }.withRegs { s.regs with result := .errFatal } := rfl

section

variable {runsFatal permitted : Bool} {rule : State → State} {s : State}

/-- R170 step 1. -/
theorem frontEnd_of_fatal (hfatal : s.fatal = true) :
    frontEnd false permitted rule s = s.setResult .errFatal := by
  simp [frontEnd, hfatal]

/-- R170 step 2. In the fatal state step 1 has the same outcome. -/
theorem frontEnd_of_startsTooEarly (hearly : s.startsTooEarly = true) :
    frontEnd runsFatal permitted rule s = s.raiseFatal causeStartupOrder := by
  unfold frontEnd
  rw [if_pos hearly]
  split
  next hfirst =>
    obtain ⟨hfatal, -⟩ := (Bool.and_eq_true _ _).mp hfirst
    exact (State.raiseFatal_of_fatal hfatal _).symm
  next => rfl

/-- R170 step 3. -/
theorem frontEnd_of_not_permitted (hfatal : s.fatal = false) (hearly : s.startsTooEarly = false) :
    frontEnd runsFatal false rule s = s.setResult .errIllegal := by
  simp [frontEnd, hfatal, hearly]

end

theorem Instr.runsWhenFatal_iff (i : Instr) : Instr.runsWhenFatal i = true ↔ i = .nop ∨ i = .readCtrl := by
  cases i <;> simp [Instr.runsWhenFatal]

/-- Every word passes the front end, and the two operations of R170 step 1 alone are exempt from that step. -/
theorem State.issueCommand_eq_frontEnd (s : State) (p : Port) (w : Word) :
    ∃ runsFatal permitted rule,
      s.issueCommand p w = .next (frontEnd runsFatal permitted rule (s.onPort p)) ∧
        (runsFatal = true → decode w = .ok .nop ∨ decode w = .ok .readCtrl) := by
  cases hdecode : decode w with
  | error why => exact ⟨false, false, id, State.issueCommand_of_illegal hdecode, nofun⟩
  | ok i =>
    refine ⟨Instr.runsWhenFatal i, _, ruleOf i,
      (State.issueCommand_of_decode hdecode).trans (exec_eq i _), fun hruns => ?_⟩
    simpa using (Instr.runsWhenFatal_iff i).mp hruns

/-- RESULT of the port that issues is the only register an answer without data writes (R24). -/
theorem State.onPort_setResult (s : State) (p : Port) (c : Result) :
    (s.onPort p).setResult c = (s.onPort p).withRegs { s.port p with result := c } := by
  rw [State.setResult_eq_withRegs, State.regs, State.onPort_issuing, State.port_onPort]

/-- Settles O6: the word is not exempt from the first check of the front end. -/
theorem fatalBlockIsInert : Obligations.FatalBlockIsInert := by
  unfold Obligations.FatalBlockIsInert
  intro s p w hfatal hnop hread
  obtain ⟨runsFatal, permitted, rule, hissue, hexempt⟩ := s.issueCommand_eq_frontEnd p w
  obtain rfl : runsFatal = false := Bool.eq_false_iff.mpr fun h => (hexempt h).elim hnop hread
  rw [hissue, frontEnd_of_fatal (s := s.onPort p) hfatal, State.onPort_setResult]

theorem State.startsTooEarly_onPort_p2 {s : State} (h : s.clkEn = false ∨ s.qEn = false) :
    (s.onPort .p2).startsTooEarly = true := by
  simpa [State.startsTooEarly, State.onPort] using h

/-- Settles O7: whatever the word is, the front end ends it at its second check or before, with the same
outcome. -/
theorem rendererBeforeInitIsFatal : Obligations.RendererBeforeInitIsFatal := by
  unfold Obligations.RendererBeforeInitIsFatal
  intro s w hoff
  obtain ⟨runsFatal, permitted, rule, hissue, -⟩ := s.issueCommand_eq_frontEnd .p2 w
  rw [hissue, frontEnd_of_startsTooEarly (State.startsTooEarly_onPort_p2 hoff),
    State.raiseFatal_eq_withRegs]
  rfl

/-- R170 step 2 stops P2 only, and only before CLK and Q are initialised. -/
theorem State.startsTooEarly_eq_false {s : State} (h : s.issuing = .p2 → s.clkEn = true ∧ s.qEn = true) :
    s.startsTooEarly = false :=
  State.startsTooEarly_onPort_eq_false h

/-- Settles O8: the operation passes the first two checks of the front end and ends at the third. -/
theorem wrongPortIsIllegal : Obligations.WrongPortIsIllegal := by
  unfold Obligations.WrongPortIsIllegal
  intro s i hport hfatal hp2
  have hpermitted : (Instr.ports i).contains s.issuing = false := by simpa using hport
  rw [exec_eq, dispatchOp, hpermitted,
    frontEnd_of_not_permitted hfatal (State.startsTooEarly_eq_false hp2), State.setResult_eq_withRegs]

/-! ## NOP and READ_CTRL -/

/-- NOP and READ_CTRL run in every state but that of an early P2 (R170, R171). -/
theorem State.accepts_of_runsWhenFatal {s : State} {i : Instr} (hruns : Instr.runsWhenFatal i = true)
    (hp2 : s.issuing = .p2 → s.clkEn = true ∧ s.qEn = true) : s.accepts i = true := by
  refine (s.accepts_iff i).mpr ⟨fun _ => hruns, State.startsTooEarly_eq_false hp2, ?_⟩
  rcases (Instr.runsWhenFatal_iff i).mp hruns with rfl | rfl <;> cases s.issuing <;> decide

/-- Settles O9: the rule of NOP writes RESULT alone, and 0 is the one word with its OP. -/
theorem nopOnlyWritesResult : Obligations.NopOnlyWritesResult := by
  unfold Obligations.NopOnlyWritesResult
  refine ⟨rfl, fun w => decode_of_opcode_zero, fun s hp2 => ?_⟩
  exact exec_of_accepts (State.accepts_of_runsWhenFatal rfl hp2)

/-- The enable bits as a number (R175). -/
theorem State.enableWord_eq (s : State) :
    s.enableWord = BitVec.ofNat 32 (s.clkEn.toNat + 2 * s.rngEn.toNat + 4 * s.qEn.toNat +
      8 * s.usbEn.toNat + 16 * s.usbIrqEn.toNat) := by
  refine BitVec.eq_of_toNat_eq ?_
  have hclk := s.clkEn.toNat_lt
  have hrng := s.rngEn.toNat_lt
  have hq := s.qEn.toNat_lt
  have husb := s.usbEn.toNat_lt
  have hirq := s.usbIrqEn.toNat_lt
  simp only [State.enableWord, toNat_append_eq_add, BitVec.toNat_ofBool, BitVec.ofNat_eq_ofNat,
    BitVec.toNat_ofNat]
  omega

/-- The fatal flag is worth 256, above the cause (R175). -/
theorem State.fatalWord_eq (s : State) :
    s.fatalWord = BitVec.ofNat 32 (256 * s.fatal.toNat + s.fatalCause.toNat) := by
  refine BitVec.eq_of_toNat_eq ?_
  have hcause := s.fatalCause.isLt
  have hflag := s.fatal.toNat_lt
  simp only [State.fatalWord, toNat_append_eq_add, BitVec.toNat_ofBool, BitVec.ofNat_eq_ofNat,
    BitVec.toNat_ofNat]
  omega

theorem readCtrlRule_eq (s : State) :
    readCtrlRule s = s.withRegs { s.regs with
      resp0 := s.enableWord
      resp1 := s.fatalWord
      resp2 := s.brightLevel.setWidth 32
      result := .ok } := by
  simp only [readCtrlRule, State.setResult_eq_withRegs, State.setResp0_eq_withRegs,
    State.setResp1_eq_withRegs, State.setResp2_eq_withRegs, State.regs_withRegs, State.withRegs_withRegs]

/-- Settles O12: each of the three answers is the number of its bits. -/
theorem readCtrlShowsControlState : Obligations.ReadCtrlShowsControlState := by
  unfold Obligations.ReadCtrlShowsControlState
  refine ⟨rfl, fun s hp2 => ?_⟩
  rw [exec_of_accepts (State.accepts_of_runsWhenFatal rfl hp2), ← State.enableWord_eq, ← State.fatalWord_eq,
    BitVec.ofNat_toNat]
  exact congrArg _ (readCtrlRule_eq s)

/-! ## IRQ_EN and FATAL_REQ -/

/-- An accepted operation that does not run in the fatal state finds the block not fatal (R170 step 1). -/
theorem State.fatal_eq_false_of_accepts {s : State} {i : Instr} (hacc : s.accepts i = true)
    (hruns : Instr.runsWhenFatal i = false) : s.fatal = false := by
  obtain ⟨hfatal, -⟩ := (s.accepts_iff i).mp hacc
  exact Bool.eq_false_iff.mpr fun h => Bool.eq_false_iff.mp hruns (hfatal h)

theorem irqEnRule_of_allowed {v : Bool} {s : State} (h : v = true → s.usbEn = true) :
    irqEnRule v s = { s with usbIrqEn := v }.withRegs { s.regs with result := .ok } := by
  rw [irqEnRule, if_neg (by simpa using h)]
  rfl

theorem irqEnRule_of_too_early {s : State} (h : s.usbEn = false) :
    irqEnRule true s = s.raiseFatal causeStartupOrder := by
  rw [irqEnRule, h]
  rfl

/-- Settles O11: masking is always allowed, and unmasking is where usb_en = 1. -/
theorem irqEnNeedsUsb : Obligations.IrqEnNeedsUsb := by
  unfold Obligations.IrqEnNeedsUsb
  refine ⟨by decide, fun _ => rfl, fun s hacc => ?_⟩
  rw [exec_of_accepts (hacc false), exec_of_accepts (hacc true)]
  refine ⟨congrArg _ (irqEnRule_of_allowed nofun), fun hon => congrArg _ (irqEnRule_of_allowed fun _ => hon),
    fun hoff => congrArg _ ?_⟩
  calc irqEnRule true s = s.raiseFatal causeStartupOrder := irqEnRule_of_too_early hoff
    _ = _ := State.raiseFatal_of_not_fatal (State.fatal_eq_false_of_accepts (hacc true) rfl) _

theorem fatalReqRule_of_hardware_cause {c : BitVec 8} (h : c.toNat < 0x10) (s : State) :
    fatalReqRule c s = s.withRegs { s.regs with result := .errIllegal } :=
  if_pos h

theorem fatalReqRule_of_software_cause {c : BitVec 8} (h : 0x10 ≤ c.toNat) (s : State) :
    fatalReqRule c s = s.raiseFatal c :=
  if_neg (Nat.not_lt.mpr h)

/-- Settles O13: the two clauses are the two branches of the rule, and the cause is the block's first. -/
theorem fatalReqRaisesItsCause : Obligations.FatalReqRaisesItsCause := by
  unfold Obligations.FatalReqRaisesItsCause
  refine ⟨append_eq_or_setWidth 0x040000#24, fun _ p => by cases p <;> simp [Instr.ports], fun c s hacc => ?_⟩
  rw [exec_of_accepts hacc]
  refine ⟨fun hlow => congrArg _ (fatalReqRule_of_hardware_cause hlow s), fun hhigh => congrArg _ ?_⟩
  calc fatalReqRule c s = s.raiseFatal c := fatalReqRule_of_software_cause hhigh s
    _ = _ := State.raiseFatal_of_not_fatal (State.fatal_eq_false_of_accepts hacc rfl) c

/-! ## INIT -/

theorem initRule_eq (m : BitVec 4) (s : State) :
    initRule m s = { s with
      clkEn := if m.getLsbD 0 then true else s.clkEn
      rngEn := if m.getLsbD 1 then true else s.rngEn
      qEn := if m.getLsbD 2 then true else s.qEn
      usbEn := if m.getLsbD 3 then true else s.usbEn }.withRegs { s.regs with result := .ok } := by
  simp only [Bool.if_true_left, Bool.decide_eq_true, Bool.or_comm (m.getLsbD _)]
  rfl

/-- clk_en, rng_en, q_en and usb_en (R29), ordered by which bits are set. -/
def State.enables (s : State) : Bool × Bool × Bool × Bool :=
  (s.clkEn, s.rngEn, s.qEn, s.usbEn)

theorem State.enables_le_iff (s t : State) :
    s.enables ≤ t.enables ↔
      (s.clkEn = true → t.clkEn = true) ∧ (s.rngEn = true → t.rngEn = true) ∧
        (s.qEn = true → t.qEn = true) ∧ (s.usbEn = true → t.usbEn = true) := Iff.rfl

/-- INIT's rule clears no bit (R173). -/
theorem enables_le_initRule (m : BitVec 4) (s : State) : s.enables ≤ (initRule m s).enables := by
  rw [State.enables_le_iff]
  simp +contextual [initRule]

theorem enables_le_ruleOf (i : Instr) (s : State) : s.enables ≤ (ruleOf i s).enables := by
  cases i with
  | init m => exact enables_le_initRule m s
  | _ =>
    refine le_of_eq ?_
    simp [State.enables, ruleOf_clkEn, ruleOf_rngEn, ruleOf_qEn, ruleOf_usbEn]

/-- No step of the environment but RESET writes an enable bit (R29). -/
theorem State.perform_environment_enables {u t : State} {a : Act} (henv : a.isEnvironment = true)
    (hreset : a ≠ .reset) (h : u.perform a = .next t) : t.enables = u.enables := by
  cases a with
  | bus x => cases henv
  | context c x => cases henv
  | reset => exact absurd rfl hreset
  | syncW | syncR | keypad lines => cases h; rfl
  | _ => obtain ⟨-, rfl⟩ := stepIf_next h; simp [State.enables]

/-- No step but RESET clears an enable bit (R173). -/
theorem enables_le_step {s s' : State} (h : step s = .next s') (hreset : s.nextAct ≠ some .reset) :
    s.enables ≤ s'.enables := by
  refine step_keeps h (s.enables ≤ ·.enables) ?_ ?_ ?_ ?_ ?_ ?_ ?rule ?_ ?env le_rfl
  case rule => exact fun i u _ hu => hu.trans (enables_le_ruleOf i u)
  case env =>
    intro u a t hnext henv hu ha
    have hne : a ≠ .reset := by rintro rfl; exact hreset hnext
    exact hu.trans_eq (State.perform_environment_enables henv hne ha).symm
  all_goals intros; simpa [State.enables]

/-- Settles O10: INIT's rule is a disjunction with its mask, and no step but RESET clears a bit. -/
theorem initSetsEnableBits : Obligations.InitSetsEnableBits := by
  unfold Obligations.InitSetsEnableBits
  refine ⟨append_eq_or_setWidth 0x0100000#28, fun _ => rfl, fun m s hacc => ?_,
    fun s s' h hreset => (s.enables_le_iff s').mp (enables_le_step h hreset)⟩
  rw [exec_of_accepts hacc]
  exact congrArg _ (initRule_eq m s)

end Machine

end Sys2Proof
end

section
/-!
PROOFS. What an operation that ends in an error leaves as it was: a recoverable error writes RESULT and at most
RESP0 = 0, and the fatal state with its first cause lasts until RESET (60_exceptions.md R180, R183, R190, R196).
-/

namespace Sys2Proof.Machine

/-! ## Recoverable errors -/

/-- If t reports a recoverable error on the issuing port, it is s but for that RESULT, and for RESP0 = 0 where
the rule writes 0 there (R180, R196). -/
def State.KeepsOnError (s t : State) : Prop :=
  t.regs.result.recoverable = true →
    t = s.withRegs { s.regs with result := t.regs.result } ∨
      t = s.withRegs { s.regs with resp0 := 0, result := t.regs.result }

namespace State.KeepsOnError

variable {s t u : State} {c : Result}

theorem setResult : KeepsOnError s (s.setResult c) := by
  intro _
  left
  rw [State.regs_setResult_result, State.setResult_eq_withRegs]

theorem setResp0_zero : KeepsOnError s ((s.setResp0 0).setResult c) := by
  intro _
  right
  rw [State.regs_setResult_result, State.setResp0_setResult]

/-- Any other result asks nothing of the state it is reported in. -/
theorem of_not_recoverable (h : c.recoverable = false) : KeepsOnError s (u.setResult c) := by
  intro herror
  rw [State.regs_setResult_result, h] at herror
  cases herror

theorem ok : KeepsOnError s (u.setResult .ok) :=
  of_not_recoverable rfl

theorem raiseFatal {cause : BitVec 8} : KeepsOnError s (u.raiseFatal cause) :=
  of_not_recoverable rfl

/-- The rules branch on their checks. -/
theorem ite {b : Prop} [Decidable b] (ht : KeepsOnError s t) (hu : KeepsOnError s u) :
    KeepsOnError s (if b then t else u) := by
  split
  · exact ht
  · exact hu

end State.KeepsOnError

/-- Each branch of an operation's own rule that reports a recoverable error stops before the rule's effect. -/
theorem ruleOf_keepsOnError (i : Instr) (s : State) : State.KeepsOnError s (ruleOf i s) := by
  cases i with
  | irqEn v => exact .ite .raiseFatal .ok
  | fatalReq cause => exact .ite .setResult .raiseFatal
  | scan => exact scanRule_cases s _ .setResult .raiseFatal .raiseFatal .ok
  | evtRead j => exact .ite .setResp0_zero .ok
  | rngRead => exact .ite .setResult (.ite .setResp0_zero .ok)
  | qPush => exact .ite .setResult (.ite .ok .ok)
  | qPop => exact .ite .setResp0_zero .ok
  | usbPushKbd => exact .ite .setResult (.ite .setResp0_zero (.ite .setResp0_zero .ok))
  | clkRead | qLevel | usbPoll | usbStateRead => exact .ite .setResult .ok
  | _ => exact .ok

/-- Settles O54: the front end writes RESULT alone or raises Fatal, and an operation's own rule checks before it
changes anything. -/
theorem recoverableErrorsChangeNothing : Obligations.RecoverableErrorsChangeNothing := by
  unfold Obligations.RecoverableErrorsChangeNothing
  intro i s t h
  exact exec_cases h (State.KeepsOnError s) (fun _ _ => .setResult) (fun _ _ => .raiseFatal)
    (fun _ _ _ => .setResult) (fun _ => ruleOf_keepsOnError i s)

/-! ## The fatal state -/

/-- The block is fatal, and c is the first cause (R183). -/
structure State.FatalWith (c : BitVec 8) (s : State) : Prop where
  fatal : s.fatal = true
  cause : s.fatalCause = c

theorem State.FatalWith.congr {c : BitVec 8} {s t : State} (h : s.FatalWith c) (hfatal : t.fatal = s.fatal)
    (hcause : t.fatalCause = s.fatalCause) : t.FatalWith c :=
  ⟨hfatal.trans h.fatal, hcause.trans h.cause⟩

/-- A further fatal condition keeps the first cause (R191). -/
theorem State.FatalWith.raiseFatal {c : BitVec 8} {s : State} (h : s.FatalWith c) (d : BitVec 8) :
    (s.raiseFatal d).FatalWith c := by
  rw [State.raiseFatal_of_fatal h.fatal]
  exact h.congr rfl rfl

/-- The fatal state lets NOP and READ_CTRL alone through, and their rules write no block state (R188, R190). -/
theorem State.FatalWith.ruleOf {c : BitVec 8} {s : State} {i : Instr} (h : s.FatalWith c)
    (hacc : s.accepts i = true) : (ruleOf i s).FatalWith c := by
  obtain ⟨hruns, -⟩ := (s.accepts_iff i).mp hacc
  rcases (Instr.runsWhenFatal_iff i).mp (hruns h.fatal) with rfl | rfl <;> exact h.congr rfl rfl

/-- Settles O55: the front end and the rules that it lets through keep the fatal state, and so does the
environment up to RESET. -/
theorem fatalIsLeftOnlyByReset : Obligations.FatalIsLeftOnlyByReset := by
  unfold Obligations.FatalIsLeftOnlyByReset
  intro s s' h hfatal hreset
  suffices hkept : s'.FatalWith s.fatalCause from ⟨hkept.fatal, hkept.cause⟩
  refine step_keeps h (State.FatalWith s.fatalCause) ?_ ?_ ?_ ?_ ?_ ?early ?rule ?_ ?env ⟨hfatal, rfl⟩
  case early => exact fun _ hu => hu.raiseFatal _
  case rule => exact fun i u hacc hu => hu.ruleOf hacc
  case env =>
    intro u a t hnext henv hu ha
    have hne : a ≠ .reset := by rintro rfl; exact hreset hnext
    obtain ⟨-, -, -, hf, hc⟩ := State.perform_environment_frame henv hne ha
    exact hu.congr hf hc
  all_goals intros; rename State.FatalWith _ _ => hu; exact hu.congr (by simp) (by simp)

end Sys2Proof.Machine
end
